-- ==== Sys2Proof/Word.lean ====
section
/-! DEFINITION. The two word types (spec 00 R6) and the closed selector enumerations of the instruction set
(00 R10, 30 R85, R81). -/

namespace Sys2Proof

/-- `u8` of 00 R6. -/
abbrev Byte := BitVec 8

/-- `u16` of 00 R6: pairs, pc, sp and addresses. -/
abbrev Word := BitVec 16

/-- `Reg8` of 30 R85: the seven 8-bit register cells (10 R21). -/
inductive Reg8 where
  | a | b | c | d | e | h | l
  deriving DecidableEq, Repr

/-- The four pair views (10 R25, R27); this is `StackPair` of 30 R85. -/
inductive Pair where
  | bc | de | hl | af
  deriving DecidableEq, Repr

/-- `AddPair` of 30 R85: the operands of ADD HL (42, spec decision D5). -/
inductive AddPair where
  | bc | de | hl
  deriving DecidableEq, Repr

/-- `LoadPair` of 30 R85: the destinations of LD rr,nn. -/
inductive LoadPair where
  | bc | de | hl | sp
  deriving DecidableEq, Repr

/-- `Cond` of 30 R85 and 46 R220. -/
inductive Cond where
  | nz | z | nc | c
  deriving DecidableEq, Repr

/-- `Src8` of 30 R85: the right operand of an 8-bit ALU instruction. -/
inductive Src8 where
  | reg (r : Reg8)
  | indHL
  | imm
  deriving DecidableEq, Repr

/-- `Tgt8` of 47 R230: the operand of a CB-prefixed rotate or shift. -/
inductive Tgt8 where
  | reg (r : Reg8)
  | indHL
  deriving DecidableEq, Repr

/-- The four instruction formats of 30 R81. -/
inductive Format where
  | op | opN8 | opN16 | cbOp
  deriving DecidableEq, Repr

end Sys2Proof
end

