-- ==== Sys2Proof/Syntax.lean ====
section
/-! DEFINITION. The instructions: one constructor for each row of spec/opcode_table.json, named as its mnemonic is
written (30 R92; `indHLI`, `indHLD` are (HL+) and (HL-)). An Instruction does not carry its immediate (30 R85). -/

namespace Sys2Proof

/-- The instructions of the two decode tables (30 R85, R87, 47 R230). -/
inductive Instr where
  -- 8-bit arithmetic, 41
  | add_a_b | add_a_c | add_a_d | add_a_e | add_a_h | add_a_l | add_a_indHL | add_a_a
  | adc_a_b | adc_a_c | adc_a_d | adc_a_e | adc_a_h | adc_a_l | adc_a_indHL | adc_a_a
  | sub_b | sub_c | sub_d | sub_e | sub_h | sub_l | sub_indHL | sub_a
  | add_a_n | adc_a_n | sub_n
  -- 16-bit add to HL, 42
  | add_hl_bc | add_hl_de | add_hl_hl
  -- 8-bit loads, 43
  | ld_indBC_a | ld_b_n | ld_a_indBC | ld_c_n | ld_indDE_a | ld_d_n | ld_a_indDE | ld_e_n
  | ld_indHLI_a | ld_h_n | ld_a_indHLI | ld_l_n | ld_indHLD_a | ld_indHL_n | ld_a_indHLD | ld_a_n
  | ld_b_b | ld_b_c | ld_b_d | ld_b_e | ld_b_h | ld_b_l | ld_b_indHL | ld_b_a
  | ld_c_b | ld_c_c | ld_c_d | ld_c_e | ld_c_h | ld_c_l | ld_c_indHL | ld_c_a
  | ld_d_b | ld_d_c | ld_d_d | ld_d_e | ld_d_h | ld_d_l | ld_d_indHL | ld_d_a
  | ld_e_b | ld_e_c | ld_e_d | ld_e_e | ld_e_h | ld_e_l | ld_e_indHL | ld_e_a
  | ld_h_b | ld_h_c | ld_h_d | ld_h_e | ld_h_h | ld_h_l | ld_h_indHL | ld_h_a
  | ld_l_b | ld_l_c | ld_l_d | ld_l_e | ld_l_h | ld_l_l | ld_l_indHL | ld_l_a
  | ld_indHL_b | ld_indHL_c | ld_indHL_d | ld_indHL_e | ld_indHL_h | ld_indHL_l | ld_indHL_a | ld_a_b
  | ld_a_c | ld_a_d | ld_a_e | ld_a_h | ld_a_l | ld_a_indHL | ld_a_a | ldh_indN_a
  | ldh_indC_a | ld_indNN_a | ldh_a_indN | ldh_a_indC | ld_a_indNN
  -- 16-bit loads and stack-pointer transfers, 44
  | ld_bc_nn | ld_indNN_sp | ld_de_nn | ld_hl_nn | ld_sp_nn | ld_sp_hl
  -- PUSH and POP, 45
  | pop_bc | push_bc | pop_de | push_de | pop_hl | push_hl | pop_af | push_af
  -- jumps, 46
  | jp_nz_nn | jp_nn | jp_z_nn | jp_nc_nn | jp_c_nn
  -- annex: AND, XOR, OR, 47
  | and_b | and_c | and_d | and_e | and_h | and_l | and_indHL | and_a
  | xor_b | xor_c | xor_d | xor_e | xor_h | xor_l | xor_indHL | xor_a
  | or_b | or_c | or_d | or_e | or_h | or_l | or_indHL | or_a
  | and_n | xor_n | or_n
  -- annex: accumulator rotates, 47
  | rlca | rrca | rla | rra
  -- annex: CB-prefixed rotates and shifts, 47
  | rlc_b | rlc_c | rlc_d | rlc_e | rlc_h | rlc_l | rlc_indHL | rlc_a
  | rrc_b | rrc_c | rrc_d | rrc_e | rrc_h | rrc_l | rrc_indHL | rrc_a
  | rl_b | rl_c | rl_d | rl_e | rl_h | rl_l | rl_indHL | rl_a
  | rr_b | rr_c | rr_d | rr_e | rr_h | rr_l | rr_indHL | rr_a
  | sla_b | sla_c | sla_d | sla_e | sla_h | sla_l | sla_indHL | sla_a
  | sra_b | sra_c | sra_d | sra_e | sra_h | sra_l | sra_indHL | sra_a
  | srl_b | srl_c | srl_d | srl_e | srl_h | srl_l | srl_indHL | srl_a
  deriving DecidableEq, Repr

end Sys2Proof
end

