-- ==== Sys2Proof/Config.lean ====
section
/-! DEFINITION. The open parameters of spec 00 R5 as types, and the spec's own defaults. They are the arguments
of the step (Machine/Params.lean); the values in force are `tableInForce` (Decode.lean) and `addHlZeroMode`
(Machine/Flags.lean). -/

namespace Sys2Proof

/-- `ADD_HL_ZERO_MODE` of 00 R5 (42 R164, C5). -/
inductive ZeroMode where
  | computed
  | unaffected
  deriving DecidableEq, Repr

/-- `DECODE_TABLE` of 00 R5: the two tables of 256 optional entries (30 R83). A constant of the machine, not state
(10 R33), so it may hold functions. -/
structure DecodeTable where
  /-- The first table, indexed by an opcode byte that is not prefixed. -/
  unprefixed : Byte → Option Instr
  /-- The second table, indexed by the byte after 0xCB. -/
  cb : Byte → Option Instr

/-- The spec's default of `ADMIT_ANNEX` (00 R5, D3). -/
def Config.admitAnnexDefault : Bool := false

/-- The spec's default of `ADD_HL_ZERO_MODE` (00 R5, D4, C5). -/
def Config.addHlZeroModeDefault : ZeroMode := .computed

end Sys2Proof
end

