-- ==== Sys2Proof/Machine/Bytes.lean ====
section
/-! DEFINITION. Joining and splitting of words (10 R25, R26) and bits as bytes. -/

namespace Sys2Proof.Machine

/-- `join(high,low)` of 10 R25. -/
def join (hi lo : Byte) : Word := hi ++ lo

/-- `w[15:8]` (10 R26). -/
def hiByte (w : Word) : Byte := w.extractLsb' 8 8

/-- `w[7:0]` (10 R26). -/
def loByte (w : Word) : Byte := w.extractLsb' 0 8

/-- The bit as a byte 0 or 1 (00 R6). -/
def bitByte (x : Bool) : Byte := if x then 1#8 else 0#8

end Sys2Proof.Machine
end

