-- ==== Sys2Proof/Machine/State.lean ====
section
/-! DEFINITION. The state of the machine as plain data: the tuple of spec 10 R20 and nothing else, with its reset
value (10 R36). -/

namespace Sys2Proof.Machine

/-- The one exception of the machine (60 R280), and the content of the state's `fault` component (10 R20). -/
inductive Fault where
  /-- `UnimplementedOpcode(opcode, prefixed)`: raised by the step that finds an empty slot at decode, which latches it
  in `State.fault` (60 R280, R283). The step function answers with it in every state that holds it latched: the engine
  takes no further step (R283). Safe: the run is over, as the spec says. -/
  | unimplementedOpcode (opcode : Byte) (prefixed : Bool)
  deriving DecidableEq, Repr

/-- The reasons of the model's own for which an instruction has no meaning. -/
inductive Refusal where
  /-- An arm of exec without a meaning. No arm raises it: every instruction of the table has its meaning. Safe. -/
  | notModelled (mnemonic : String)
  deriving DecidableEq, Repr

/-- The four flags (10 R22). -/
structure Flags where
  /-- zero -/
  z : Bool
  /-- subtract -/
  n : Bool
  /-- half-carry -/
  h : Bool
  /-- carry -/
  c : Bool
  deriving DecidableEq, Repr

/-- The memory array of 10 R32: the bytes that are not 0x00, as (address, byte) cells with rising addresses. -/
abbrev Memory := List Host.Cell

/-- The complete state (10 R20). -/
structure State where
  a : Byte
  b : Byte
  c : Byte
  d : Byte
  e : Byte
  h : Byte
  l : Byte
  f : Flags
  pc : Word
  sp : Word
  mem : Memory
  fault : Option Fault
  deriving DecidableEq, Repr

/-- What an instruction's meaning and a step answer with. -/
abbrev Result := Host.Outcome State Fault Refusal

/-- The reset state (10 R36, 70 R310): every register, flag and memory byte zero, no fault. -/
def State.reset : State where
  a := 0x00#8
  b := 0x00#8
  c := 0x00#8
  d := 0x00#8
  e := 0x00#8
  h := 0x00#8
  l := 0x00#8
  f := ⟨false, false, false, false⟩
  pc := 0x0000#16
  sp := 0x0000#16
  mem := []
  fault := none

end Sys2Proof.Machine
end

