-- ==== Sys2Proof/Machine/Flags.lean ====
section
/-! DEFINITION. The flag byte (10 R23, R24), the jump conditions (46 R220) and every flag computation: Add8, Sub8
(41 R140, R141), Add16 (42 R160), Logic and Shift (47 R231, R251). Sums are over the integers (00 R7). -/

namespace Sys2Proof.Machine

/-- `ADD_HL_ZERO_MODE` in force: the spec's default (42 R164, C5). DESIGN CHOICE, unsafe for a real LR35902: log 3. -/
def addHlZeroMode : ZeroMode := .computed

/-- `FlagToByte` (10 R23). -/
def Flags.toByte (f : Flags) : Byte :=
  (bitByte f.z <<< 7) ||| (bitByte f.n <<< 6) ||| (bitByte f.h <<< 5) ||| (bitByte f.c <<< 4)

/-- `FlagFromByte` (10 R24). -/
def Flags.ofByte (v : Byte) : Flags where
  z := v.getLsbD 7
  n := v.getLsbD 6
  h := v.getLsbD 5
  c := v.getLsbD 4

/-- `CondHolds` (46 R220). -/
def condHolds : Cond → Flags → Bool
  | .nz, f => !f.z
  | .z, f => f.z
  | .nc, f => !f.c
  | .c, f => f.c

/-- An 8-bit result with the flags that go with it. -/
structure AluResult where
  res : Byte
  f : Flags
  deriving DecidableEq, Repr

/-- `Add8` (41 R140): the carry-in is a third addend of result, half-carry and carry (C3). -/
def add8 (x y : Byte) (cin : Bool) : AluResult :=
  let res := x + y + bitByte cin
  { res := res
    f := { z := res == 0#8
           n := false
           h := decide (0x10 ≤ (x &&& 0x0F#8).toNat + (y &&& 0x0F#8).toNat + cin.toNat)
           c := decide (0x100 ≤ x.toNat + y.toNat + cin.toNat) } }

/-- `Sub8` (41 R141). -/
def sub8 (x y : Byte) : AluResult :=
  let res := x - y
  { res := res
    f := { z := res == 0#8
           n := true
           h := decide ((x &&& 0x0F#8).toNat < (y &&& 0x0F#8).toNat)
           c := decide (x.toNat < y.toNat) } }

/-- A 16-bit result with the flags that go with it. -/
structure Alu16Result where
  res : Word
  f : Flags
  deriving DecidableEq, Repr

/-- `Add16` (42 R160): half-carry out of bit 11 (C2), carry out of bit 15. -/
def add16 (x y : Word) : Alu16Result :=
  let res := x + y
  { res := res
    f := { z := res == 0#16
           n := false
           h := decide (0x1000 ≤ (x &&& 0x0FFF#16).toNat + (y &&& 0x0FFF#16).toNat)
           c := decide (0x10000 ≤ x.toNat + y.toNat) } }

/-- The flags ADD HL,rr leaves: z by the mode (42 R164), the others from the sum. -/
def addHlFlags (mode : ZeroMode) (old new : Flags) : Flags :=
  match mode with
  | .computed => new
  | .unaffected => { new with z := old.z }

/-- The operations of `Logic` (47 R231). -/
inductive LogicOp where
  | and | xor | or
  deriving DecidableEq, Repr

/-- `Logic` (47 R231). -/
def logic (op : LogicOp) (x y : Byte) : AluResult :=
  let res := match op with
    | .and => x &&& y
    | .xor => x ^^^ y
    | .or => x ||| y
  { res := res
    f := { z := res == 0#8
           n := false
           h := op == .and
           c := false } }

/-- The operations of `Shift` (47 R251). -/
inductive ShiftOp where
  | rlc | rrc | rl | rr | sla | sra | srl
  deriving DecidableEq, Repr

/-- The byte `Shift` gives (47 R251). -/
def shiftRes (op : ShiftOp) (v : Byte) (cin : Bool) : Byte :=
  match op with
  | .rlc => (v <<< 1) ||| bitByte (v.getLsbD 7)
  | .rrc => (v >>> 1) ||| (bitByte (v.getLsbD 0) <<< 7)
  | .rl => (v <<< 1) ||| bitByte cin
  | .rr => (v >>> 1) ||| (bitByte cin <<< 7)
  | .sla => v <<< 1
  | .sra => (v >>> 1) ||| (v &&& 0x80#8)
  | .srl => v >>> 1

/-- The bit `Shift` moves into the carry (47 R251). -/
def shiftOut (op : ShiftOp) (v : Byte) : Bool :=
  match op with
  | .rlc | .rl | .sla => v.getLsbD 7
  | .rrc | .rr | .sra | .srl => v.getLsbD 0

/-- `Shift` (47 R251). -/
def shift (op : ShiftOp) (v : Byte) (cin : Bool) : AluResult :=
  let res := shiftRes op v cin
  { res := res
    f := { z := res == 0#8, n := false, h := false, c := shiftOut op v } }

end Sys2Proof.Machine
end

