-- ==== Sys2Proof/Machine/Ops.lean ====
section
/-! DEFINITION. The named operations over memory and registers: memory access (20 R51 to R54), register and pair
access (10 R21, R25 to R27), the operand fetches Imm8 and Imm16 (40 R114, R115), the instruction fetch (40 R111), and
the entry into the one exception (60 R283). There is no return from it: 60 R287. -/

namespace Sys2Proof.Machine

/-- `mem[a]`: a byte no cell lists is 0x00, its reset content (10 R36). -/
def Memory.read : Memory → Nat → Byte
  | [], _ => 0x00#8
  | (k, x) :: m, a => if a = k then x else Memory.read m a

/-- `mem[a] <- v`, keeping the canonical form: writing 0x00 removes the cell. -/
def Memory.write : Memory → Nat → Byte → Memory
  | [], a, v => if v = 0x00#8 then [] else [(a, v)]
  | (k, x) :: m, a, v =>
    if a < k then (if v = 0x00#8 then (k, x) :: m else (a, v) :: (k, x) :: m)
    else if a = k then (if v = 0x00#8 then m else (a, v) :: m)
    else (k, x) :: Memory.write m a v

/-- Canonical from address `lo` up: rising addresses below 65536 (20 R50), no cell holding 0x00. -/
def Memory.wfFrom : Nat → Memory → Bool
  | _, [] => true
  | lo, (k, x) :: m => decide (lo ≤ k) && decide (k < 65536) && (x != 0x00#8) && Memory.wfFrom (k + 1) m

/-- The canonical form of a memory. -/
def Memory.wf (m : Memory) : Bool := Memory.wfFrom 0 m

/-- `x[r]` (10 R21). -/
def State.reg (s : State) : Reg8 → Byte
  | .a => s.a
  | .b => s.b
  | .c => s.c
  | .d => s.d
  | .e => s.e
  | .h => s.h
  | .l => s.l

/-- `x[r] <- v` (10 R21). -/
def State.setReg (s : State) (r : Reg8) (v : Byte) : State :=
  match r with
  | .a => { s with a := v }
  | .b => { s with b := v }
  | .c => { s with c := v }
  | .d => { s with d := v }
  | .e => { s with e := v }
  | .h => { s with h := v }
  | .l => { s with l := v }

/-- `f <- v` (10 R22). -/
def State.setFlags (s : State) (v : Flags) : State := { s with f := v }

/-- `pc <- v` (10 R28). -/
def State.setPc (s : State) (v : Word) : State := { s with pc := v }

/-- `sp <- v` (10 R29). -/
def State.setSp (s : State) (v : Word) : State := { s with sp := v }

/-- `xp[p]` (10 R25, R27). -/
def State.pair (s : State) : Pair → Word
  | .bc => join s.b s.c
  | .de => join s.d s.e
  | .hl => join s.h s.l
  | .af => join s.a s.f.toByte

/-- `xp[p] <- w` (10 R26, R27): a write of AF drops bits 3 to 0. -/
def State.setPair (s : State) (p : Pair) (w : Word) : State :=
  match p with
  | .bc => (s.setReg .b (hiByte w)).setReg .c (loByte w)
  | .de => (s.setReg .d (hiByte w)).setReg .e (loByte w)
  | .hl => (s.setReg .h (hiByte w)).setReg .l (loByte w)
  | .af => (s.setReg .a (hiByte w)).setFlags (Flags.ofByte (loByte w))

/-- `MemRead(a, 1)` (20 R51). -/
def State.readByte (s : State) (a : Word) : Byte := s.mem.read a.toNat

/-- `MemWrite(a, 1, v)` (20 R52). -/
def State.writeByte (s : State) (a : Word) (v : Byte) : State := { s with mem := s.mem.write a.toNat v }

/-- `MemRead(a, 2)` (20 R53): little-endian, the second address wraps. -/
def State.readWord (s : State) (a : Word) : Word := join (s.readByte (a + 1#16)) (s.readByte a)

/-- `MemWrite(a, 2, w)` (20 R54): low byte at `a`, high byte at `a +16 1`, in this order (20 R57). -/
def State.writeWord (s : State) (a : Word) (w : Word) : State :=
  (s.writeByte a (loByte w)).writeByte (a + 1#16) (hiByte w)

/-- Bytes stored at rising addresses from `a`, wrapping (what a host does to load a program, 70 R312). -/
def State.storeBytes (s : State) : Word → List Byte → State
  | _, [] => s
  | a, v :: vs => (s.writeByte a v).storeBytes (a + 1#16) vs

/-- The bytes at `n` rising addresses from `a`, wrapping (30 R80). -/
def State.loadBytes (s : State) : Nat → Word → List Byte
  | 0, _ => []
  | n + 1, a => s.readByte a :: s.loadBytes n (a + 1#16)

/-- `Imm8()` (40 R114): the operand byte, and the state with pc past it. -/
def imm8 (s : State) : Byte × State := (s.readByte s.pc, s.setPc (s.pc + 1#16))

/-- `Imm16()` (40 R115): the operand word, and the state with pc past it. -/
def imm16 (s : State) : Word × State := (s.readWord s.pc, s.setPc (s.pc + 2#16))

/-- What the fetch of 40 R111 yields: the opcode byte, whether 0xCB stood before it, and the pc after it. -/
structure Fetched where
  opcode : Byte
  prefixed : Bool
  pc : Word
  deriving DecidableEq, Repr

/-- The instruction fetch (40 R111). It changes nothing: the pc advance is committed only when decode succeeds
(40 R112, C4). -/
def fetch (s : State) : Fetched :=
  let b0 := s.readByte s.pc
  if b0 = 0xCB#8 then
    { opcode := s.readByte (s.pc + 1#16), prefixed := true, pc := s.pc + 2#16 }
  else
    { opcode := b0, prefixed := false, pc := s.pc + 1#16 }

/-- Taking the exception (60 R283): its entry is the `fault` component and nothing else, on the state as it was before
the step (40 R112, 60 R282). -/
def takeUnimplemented (s : State) (opcode : Byte) (prefixed : Bool) : State :=
  { s with fault := some (.unimplementedOpcode opcode prefixed) }

end Sys2Proof.Machine
end

