-- ==== Sys2Proof/Machine/Operands.lean ====
section
/-! DEFINITION. Operand forms: the sources and targets of the 8-bit ALU and shift families, and the addressing modes
of spec 40 R116. -/

namespace Sys2Proof.Machine

/-- The right operand of an 8-bit ALU instruction, and the state after its fetch (41: from a register, from the byte at
HL, or an immediate fetched at pc). -/
def readSrc : Src8 → State → Byte × State
  | .reg r, s => (s.reg r, s)
  | .indHL, s => (s.readByte (s.pair .hl), s)
  | .imm, s => imm8 s

/-- The operand of a CB-prefixed rotate or shift (47 R250). -/
def readTgt (t : Tgt8) (s : State) : Byte :=
  match t with
  | .reg r => s.reg r
  | .indHL => s.readByte (s.pair .hl)

/-- Write back to the same place (47 R250). -/
def writeTgt (t : Tgt8) (v : Byte) (s : State) : State :=
  match t with
  | .reg r => s.setReg r v
  | .indHL => s.writeByte (s.pair .hl) v

/-- The modes of 40 R116 that reach a memory byte. -/
inductive Mode where
  | indHL | indBC | indDE | absolute | highC | highN | hlInc | hlDec
  deriving DecidableEq, Repr

/-- The high page 0xFF00 + n (30 R89). -/
def highPage (n : Byte) : Word := 0xFF00#16 + n.setWidth 16

/-- The effective address, and the state after the operand fetch it needs (40 R116). -/
def effAddr : Mode → State → Word × State
  | .indHL, s => (s.pair .hl, s)
  | .indBC, s => (s.pair .bc, s)
  | .indDE, s => (s.pair .de, s)
  | .absolute, s => imm16 s
  | .highC, s => (highPage s.c, s)
  | .highN, s => (highPage (imm8 s).1, (imm8 s).2)
  | .hlInc, s => (s.pair .hl, s)
  | .hlDec, s => (s.pair .hl, s)

/-- The adjustment of HL after the access at `a` (40 R116, 43 R185 to R188). -/
def afterAccess : Mode → Word → State → State
  | .hlInc, a, s => s.setPair .hl (a + 1#16)
  | .hlDec, a, s => s.setPair .hl (a - 1#16)
  | .indHL, _, s => s
  | .indBC, _, s => s
  | .indDE, _, s => s
  | .absolute, _, s => s
  | .highC, _, s => s
  | .highN, _, s => s

/-- The pair view an `AddPair` names. -/
def addPairView : AddPair → Pair
  | .bc => .bc
  | .de => .de
  | .hl => .hl

/-- Write of the destination of LD rr,nn (44 R200, R201). -/
def setLoadPair (p : LoadPair) (w : Word) (s : State) : State :=
  match p with
  | .bc => s.setPair .bc w
  | .de => s.setPair .de w
  | .hl => s.setPair .hl w
  | .sp => s.setSp w

end Sys2Proof.Machine
end

