-- ==== Sys2Proof/Machine/Add16.lean ====
section
/-! DEFINITION. ADD HL,rr (spec 42). -/

namespace Sys2Proof.Machine

/-- ADD HL,rr under a value of `ADD_HL_ZERO_MODE` (42 R161 to R164). -/
def addHl (mode : ZeroMode) (p : AddPair) (s : State) : Result :=
  let r := add16 (s.pair .hl) (s.pair (addPairView p))
  .next ((s.setPair .hl r.res).setFlags (addHlFlags mode s.f r.f))

/-- R161: `ADD HL,BC`. -/
def exec_add_hl_bc (s : State) : Result := addHl addHlZeroMode .bc s

/-- R162: `ADD HL,DE`. -/
def exec_add_hl_de (s : State) : Result := addHl addHlZeroMode .de s

/-- R163: `ADD HL,HL`. -/
def exec_add_hl_hl (s : State) : Result := addHl addHlZeroMode .hl s

end Sys2Proof.Machine
end

