-- ==== Sys2Proof/Machine/Alu8.lean ====
section
/-! DEFINITION. ADD, ADC and SUB on A (spec 41). -/

namespace Sys2Proof.Machine

/-- Write the result to A and the four flags (41 R142: `x[A] <- res ; f <- (z, n, h, c)`). -/
def writeAlu (r : AluResult) (s : State) : State := (s.setReg .a r.res).setFlags r.f

/-- ADD A,src (41 R142 to R144). -/
def addA (src : Src8) (s : State) : Result :=
  let o := readSrc src s
  .next (writeAlu (add8 (o.2.reg .a) o.1 false) o.2)

/-- ADC A,src (41 R145 to R147): the carry-in is the carry as it was before the instruction. -/
def adcA (src : Src8) (s : State) : Result :=
  let o := readSrc src s
  .next (writeAlu (add8 (o.2.reg .a) o.1 o.2.f.c) o.2)

/-- SUB src (41 R148 to R150): the old carry is not read. -/
def subA (src : Src8) (s : State) : Result :=
  let o := readSrc src s
  .next (writeAlu (sub8 (o.2.reg .a) o.1) o.2)

/-- R142: `ADD A,B`. -/
def exec_add_a_b (s : State) : Result := addA (.reg .b) s

/-- R142: `ADD A,C`. -/
def exec_add_a_c (s : State) : Result := addA (.reg .c) s

/-- R142: `ADD A,D`. -/
def exec_add_a_d (s : State) : Result := addA (.reg .d) s

/-- R142: `ADD A,E`. -/
def exec_add_a_e (s : State) : Result := addA (.reg .e) s

/-- R142: `ADD A,H`. -/
def exec_add_a_h (s : State) : Result := addA (.reg .h) s

/-- R142: `ADD A,L`. -/
def exec_add_a_l (s : State) : Result := addA (.reg .l) s

/-- R143: `ADD A,(HL)`. -/
def exec_add_a_indHL (s : State) : Result := addA .indHL s

/-- R142: `ADD A,A`. -/
def exec_add_a_a (s : State) : Result := addA (.reg .a) s

/-- R145: `ADC A,B`. -/
def exec_adc_a_b (s : State) : Result := adcA (.reg .b) s

/-- R145: `ADC A,C`. -/
def exec_adc_a_c (s : State) : Result := adcA (.reg .c) s

/-- R145: `ADC A,D`. -/
def exec_adc_a_d (s : State) : Result := adcA (.reg .d) s

/-- R145: `ADC A,E`. -/
def exec_adc_a_e (s : State) : Result := adcA (.reg .e) s

/-- R145: `ADC A,H`. -/
def exec_adc_a_h (s : State) : Result := adcA (.reg .h) s

/-- R145: `ADC A,L`. -/
def exec_adc_a_l (s : State) : Result := adcA (.reg .l) s

/-- R146: `ADC A,(HL)`. -/
def exec_adc_a_indHL (s : State) : Result := adcA .indHL s

/-- R145: `ADC A,A`. -/
def exec_adc_a_a (s : State) : Result := adcA (.reg .a) s

/-- R148: `SUB B`. -/
def exec_sub_b (s : State) : Result := subA (.reg .b) s

/-- R148: `SUB C`. -/
def exec_sub_c (s : State) : Result := subA (.reg .c) s

/-- R148: `SUB D`. -/
def exec_sub_d (s : State) : Result := subA (.reg .d) s

/-- R148: `SUB E`. -/
def exec_sub_e (s : State) : Result := subA (.reg .e) s

/-- R148: `SUB H`. -/
def exec_sub_h (s : State) : Result := subA (.reg .h) s

/-- R148: `SUB L`. -/
def exec_sub_l (s : State) : Result := subA (.reg .l) s

/-- R149: `SUB (HL)`. -/
def exec_sub_indHL (s : State) : Result := subA .indHL s

/-- R148: `SUB A`. -/
def exec_sub_a (s : State) : Result := subA (.reg .a) s

/-- R144: `ADD A,n`. -/
def exec_add_a_n (s : State) : Result := addA .imm s

/-- R147: `ADC A,n`. -/
def exec_adc_a_n (s : State) : Result := adcA .imm s

/-- R150: `SUB n`. -/
def exec_sub_n (s : State) : Result := subA .imm s

end Sys2Proof.Machine
end

