-- ==== Sys2Proof/Machine/Jump.lean ====
section
/-! DEFINITION. Jumps (spec 46). -/

namespace Sys2Proof.Machine

/-- JP nn (46 R221): pc is the address after the opcode. -/
def jump (s : State) : Result := .next (s.setPc (s.readWord s.pc))

/-- JP cc,nn (46 R222 to R225): a jump not taken skips its operand unread. -/
def jumpIf (cc : Cond) (s : State) : Result :=
  if condHolds cc s.f then jump s else .next (s.setPc (s.pc + 2#16))

/-- R222: `JP NZ,nn`. -/
def exec_jp_nz_nn (s : State) : Result := jumpIf .nz s

/-- R221: `JP nn`. -/
def exec_jp_nn (s : State) : Result := jump s

/-- R223: `JP Z,nn`. -/
def exec_jp_z_nn (s : State) : Result := jumpIf .z s

/-- R224: `JP NC,nn`. -/
def exec_jp_nc_nn (s : State) : Result := jumpIf .nc s

/-- R225: `JP C,nn`. -/
def exec_jp_c_nn (s : State) : Result := jumpIf .c s

end Sys2Proof.Machine
end

