-- ==== Sys2Proof/Machine/Load16.lean ====
section
/-! DEFINITION. 16-bit loads and the stack-pointer transfers (spec 44). -/

namespace Sys2Proof.Machine

/-- LD rr,nn (44 R200, R201). -/
def ldPairImm (p : LoadPair) (s : State) : Result :=
  let o := imm16 s
  .next (setLoadPair p o.1 o.2)

/-- LD (nn),SP (44 R202). -/
def ldIndNNSP (s : State) : Result :=
  let o := imm16 s
  .next (o.2.writeWord o.1 o.2.sp)

/-- LD SP,HL (44 R203). -/
def ldSPHL (s : State) : Result := .next (s.setSp (s.pair .hl))

/-- R200: `LD BC,nn`. -/
def exec_ld_bc_nn (s : State) : Result := ldPairImm .bc s

/-- R202: `LD (nn),SP`. -/
def exec_ld_indNN_sp (s : State) : Result := ldIndNNSP s

/-- R200: `LD DE,nn`. -/
def exec_ld_de_nn (s : State) : Result := ldPairImm .de s

/-- R200: `LD HL,nn`. -/
def exec_ld_hl_nn (s : State) : Result := ldPairImm .hl s

/-- R201: `LD SP,nn`. -/
def exec_ld_sp_nn (s : State) : Result := ldPairImm .sp s

/-- R203: `LD SP,HL`. -/
def exec_ld_sp_hl (s : State) : Result := ldSPHL s

end Sys2Proof.Machine
end

