-- ==== Sys2Proof/Machine/Load8.lean ====
section
/-! DEFINITION. The 8-bit load family (spec 43). No meaning here writes a flag (40 R119). -/

namespace Sys2Proof.Machine

/-- LD r,r' (43 R170). -/
def ldRegReg (dst src : Reg8) (s : State) : Result := .next (s.setReg dst (s.reg src))

/-- LD r,n (43 R171). -/
def ldRegImm (r : Reg8) (s : State) : Result :=
  let o := imm8 s
  .next (o.2.setReg r o.1)

/-- A load of `r` through a memory mode: operand fetch, access, then the mode's adjustment of HL (43 R172, R175, R176,
R179, R181, R183, R185, R186). The address is formed before `r` is written (70 R319). -/
def load (m : Mode) (r : Reg8) (s : State) : Result :=
  let o := effAddr m s
  .next (afterAccess m o.1 (o.2.setReg r (o.2.readByte o.1)))

/-- A store of `r` through a memory mode (43 R173, R177, R178, R180, R182, R184, R187, R188). -/
def store (m : Mode) (r : Reg8) (s : State) : Result :=
  let o := effAddr m s
  .next (afterAccess m o.1 (o.2.writeByte o.1 (o.2.reg r)))

/-- LD (HL),n (43 R174): the immediate is fetched before the write. -/
def storeImm (s : State) : Result :=
  let o := imm8 s
  .next (o.2.writeByte (o.2.pair .hl) o.1)

/-- R177: `LD (BC),A`. -/
def exec_ld_indBC_a (s : State) : Result := store .indBC .a s

/-- R171: `LD B,n`. -/
def exec_ld_b_n (s : State) : Result := ldRegImm .b s

/-- R175: `LD A,(BC)`. -/
def exec_ld_a_indBC (s : State) : Result := load .indBC .a s

/-- R171: `LD C,n`. -/
def exec_ld_c_n (s : State) : Result := ldRegImm .c s

/-- R178: `LD (DE),A`. -/
def exec_ld_indDE_a (s : State) : Result := store .indDE .a s

/-- R171: `LD D,n`. -/
def exec_ld_d_n (s : State) : Result := ldRegImm .d s

/-- R176: `LD A,(DE)`. -/
def exec_ld_a_indDE (s : State) : Result := load .indDE .a s

/-- R171: `LD E,n`. -/
def exec_ld_e_n (s : State) : Result := ldRegImm .e s

/-- R187: `LD (HL+),A`. -/
def exec_ld_indHLI_a (s : State) : Result := store .hlInc .a s

/-- R171: `LD H,n`. -/
def exec_ld_h_n (s : State) : Result := ldRegImm .h s

/-- R185: `LD A,(HL+)`. -/
def exec_ld_a_indHLI (s : State) : Result := load .hlInc .a s

/-- R171: `LD L,n`. -/
def exec_ld_l_n (s : State) : Result := ldRegImm .l s

/-- R188: `LD (HL-),A`. -/
def exec_ld_indHLD_a (s : State) : Result := store .hlDec .a s

/-- R174: `LD (HL),n`. -/
def exec_ld_indHL_n (s : State) : Result := storeImm s

/-- R186: `LD A,(HL-)`. -/
def exec_ld_a_indHLD (s : State) : Result := load .hlDec .a s

/-- R171: `LD A,n`. -/
def exec_ld_a_n (s : State) : Result := ldRegImm .a s

/-- R170: `LD B,B`. -/
def exec_ld_b_b (s : State) : Result := ldRegReg .b .b s

/-- R170: `LD B,C`. -/
def exec_ld_b_c (s : State) : Result := ldRegReg .b .c s

/-- R170: `LD B,D`. -/
def exec_ld_b_d (s : State) : Result := ldRegReg .b .d s

/-- R170: `LD B,E`. -/
def exec_ld_b_e (s : State) : Result := ldRegReg .b .e s

/-- R170: `LD B,H`. -/
def exec_ld_b_h (s : State) : Result := ldRegReg .b .h s

/-- R170: `LD B,L`. -/
def exec_ld_b_l (s : State) : Result := ldRegReg .b .l s

/-- R172: `LD B,(HL)`. -/
def exec_ld_b_indHL (s : State) : Result := load .indHL .b s

/-- R170: `LD B,A`. -/
def exec_ld_b_a (s : State) : Result := ldRegReg .b .a s

/-- R170: `LD C,B`. -/
def exec_ld_c_b (s : State) : Result := ldRegReg .c .b s

/-- R170: `LD C,C`. -/
def exec_ld_c_c (s : State) : Result := ldRegReg .c .c s

/-- R170: `LD C,D`. -/
def exec_ld_c_d (s : State) : Result := ldRegReg .c .d s

/-- R170: `LD C,E`. -/
def exec_ld_c_e (s : State) : Result := ldRegReg .c .e s

/-- R170: `LD C,H`. -/
def exec_ld_c_h (s : State) : Result := ldRegReg .c .h s

/-- R170: `LD C,L`. -/
def exec_ld_c_l (s : State) : Result := ldRegReg .c .l s

/-- R172: `LD C,(HL)`. -/
def exec_ld_c_indHL (s : State) : Result := load .indHL .c s

/-- R170: `LD C,A`. -/
def exec_ld_c_a (s : State) : Result := ldRegReg .c .a s

/-- R170: `LD D,B`. -/
def exec_ld_d_b (s : State) : Result := ldRegReg .d .b s

/-- R170: `LD D,C`. -/
def exec_ld_d_c (s : State) : Result := ldRegReg .d .c s

/-- R170: `LD D,D`. -/
def exec_ld_d_d (s : State) : Result := ldRegReg .d .d s

/-- R170: `LD D,E`. -/
def exec_ld_d_e (s : State) : Result := ldRegReg .d .e s

/-- R170: `LD D,H`. -/
def exec_ld_d_h (s : State) : Result := ldRegReg .d .h s

/-- R170: `LD D,L`. -/
def exec_ld_d_l (s : State) : Result := ldRegReg .d .l s

/-- R172: `LD D,(HL)`. -/
def exec_ld_d_indHL (s : State) : Result := load .indHL .d s

/-- R170: `LD D,A`. -/
def exec_ld_d_a (s : State) : Result := ldRegReg .d .a s

/-- R170: `LD E,B`. -/
def exec_ld_e_b (s : State) : Result := ldRegReg .e .b s

/-- R170: `LD E,C`. -/
def exec_ld_e_c (s : State) : Result := ldRegReg .e .c s

/-- R170: `LD E,D`. -/
def exec_ld_e_d (s : State) : Result := ldRegReg .e .d s

/-- R170: `LD E,E`. -/
def exec_ld_e_e (s : State) : Result := ldRegReg .e .e s

/-- R170: `LD E,H`. -/
def exec_ld_e_h (s : State) : Result := ldRegReg .e .h s

/-- R170: `LD E,L`. -/
def exec_ld_e_l (s : State) : Result := ldRegReg .e .l s

/-- R172: `LD E,(HL)`. -/
def exec_ld_e_indHL (s : State) : Result := load .indHL .e s

/-- R170: `LD E,A`. -/
def exec_ld_e_a (s : State) : Result := ldRegReg .e .a s

/-- R170: `LD H,B`. -/
def exec_ld_h_b (s : State) : Result := ldRegReg .h .b s

/-- R170: `LD H,C`. -/
def exec_ld_h_c (s : State) : Result := ldRegReg .h .c s

/-- R170: `LD H,D`. -/
def exec_ld_h_d (s : State) : Result := ldRegReg .h .d s

/-- R170: `LD H,E`. -/
def exec_ld_h_e (s : State) : Result := ldRegReg .h .e s

/-- R170: `LD H,H`. -/
def exec_ld_h_h (s : State) : Result := ldRegReg .h .h s

/-- R170: `LD H,L`. -/
def exec_ld_h_l (s : State) : Result := ldRegReg .h .l s

/-- R172: `LD H,(HL)`. -/
def exec_ld_h_indHL (s : State) : Result := load .indHL .h s

/-- R170: `LD H,A`. -/
def exec_ld_h_a (s : State) : Result := ldRegReg .h .a s

/-- R170: `LD L,B`. -/
def exec_ld_l_b (s : State) : Result := ldRegReg .l .b s

/-- R170: `LD L,C`. -/
def exec_ld_l_c (s : State) : Result := ldRegReg .l .c s

/-- R170: `LD L,D`. -/
def exec_ld_l_d (s : State) : Result := ldRegReg .l .d s

/-- R170: `LD L,E`. -/
def exec_ld_l_e (s : State) : Result := ldRegReg .l .e s

/-- R170: `LD L,H`. -/
def exec_ld_l_h (s : State) : Result := ldRegReg .l .h s

/-- R170: `LD L,L`. -/
def exec_ld_l_l (s : State) : Result := ldRegReg .l .l s

/-- R172: `LD L,(HL)`. -/
def exec_ld_l_indHL (s : State) : Result := load .indHL .l s

/-- R170: `LD L,A`. -/
def exec_ld_l_a (s : State) : Result := ldRegReg .l .a s

/-- R173: `LD (HL),B`. -/
def exec_ld_indHL_b (s : State) : Result := store .indHL .b s

/-- R173: `LD (HL),C`. -/
def exec_ld_indHL_c (s : State) : Result := store .indHL .c s

/-- R173: `LD (HL),D`. -/
def exec_ld_indHL_d (s : State) : Result := store .indHL .d s

/-- R173: `LD (HL),E`. -/
def exec_ld_indHL_e (s : State) : Result := store .indHL .e s

/-- R173: `LD (HL),H`. -/
def exec_ld_indHL_h (s : State) : Result := store .indHL .h s

/-- R173: `LD (HL),L`. -/
def exec_ld_indHL_l (s : State) : Result := store .indHL .l s

/-- R173: `LD (HL),A`. -/
def exec_ld_indHL_a (s : State) : Result := store .indHL .a s

/-- R170: `LD A,B`. -/
def exec_ld_a_b (s : State) : Result := ldRegReg .a .b s

/-- R170: `LD A,C`. -/
def exec_ld_a_c (s : State) : Result := ldRegReg .a .c s

/-- R170: `LD A,D`. -/
def exec_ld_a_d (s : State) : Result := ldRegReg .a .d s

/-- R170: `LD A,E`. -/
def exec_ld_a_e (s : State) : Result := ldRegReg .a .e s

/-- R170: `LD A,H`. -/
def exec_ld_a_h (s : State) : Result := ldRegReg .a .h s

/-- R170: `LD A,L`. -/
def exec_ld_a_l (s : State) : Result := ldRegReg .a .l s

/-- R172: `LD A,(HL)`. -/
def exec_ld_a_indHL (s : State) : Result := load .indHL .a s

/-- R170: `LD A,A`. -/
def exec_ld_a_a (s : State) : Result := ldRegReg .a .a s

/-- R184: `LDH (n),A`. -/
def exec_ldh_indN_a (s : State) : Result := store .highN .a s

/-- R182: `LDH (C),A`. -/
def exec_ldh_indC_a (s : State) : Result := store .highC .a s

/-- R180: `LD (nn),A`. -/
def exec_ld_indNN_a (s : State) : Result := store .absolute .a s

/-- R183: `LDH A,(n)`. -/
def exec_ldh_a_indN (s : State) : Result := load .highN .a s

/-- R181: `LDH A,(C)`. -/
def exec_ldh_a_indC (s : State) : Result := load .highC .a s

/-- R179: `LD A,(nn)`. -/
def exec_ld_a_indNN (s : State) : Result := load .absolute .a s

end Sys2Proof.Machine
end

