-- ==== Sys2Proof/Machine/Logic.lean ====
section
/-! DEFINITION. Annex: AND, XOR, OR on A (spec 47 R231 to R240). -/

namespace Sys2Proof.Machine

/-- AND / XOR / OR of A with an operand (47 R231). -/
def logicA (op : LogicOp) (src : Src8) (s : State) : Result :=
  let o := readSrc src s
  let r := logic op (o.2.reg .a) o.1
  .next ((o.2.setReg .a r.res).setFlags r.f)

/-- R232: `AND B`. -/
def exec_and_b (s : State) : Result := logicA .and (.reg .b) s

/-- R232: `AND C`. -/
def exec_and_c (s : State) : Result := logicA .and (.reg .c) s

/-- R232: `AND D`. -/
def exec_and_d (s : State) : Result := logicA .and (.reg .d) s

/-- R232: `AND E`. -/
def exec_and_e (s : State) : Result := logicA .and (.reg .e) s

/-- R232: `AND H`. -/
def exec_and_h (s : State) : Result := logicA .and (.reg .h) s

/-- R232: `AND L`. -/
def exec_and_l (s : State) : Result := logicA .and (.reg .l) s

/-- R233: `AND (HL)`. -/
def exec_and_indHL (s : State) : Result := logicA .and .indHL s

/-- R232: `AND A`. -/
def exec_and_a (s : State) : Result := logicA .and (.reg .a) s

/-- R235: `XOR B`. -/
def exec_xor_b (s : State) : Result := logicA .xor (.reg .b) s

/-- R235: `XOR C`. -/
def exec_xor_c (s : State) : Result := logicA .xor (.reg .c) s

/-- R235: `XOR D`. -/
def exec_xor_d (s : State) : Result := logicA .xor (.reg .d) s

/-- R235: `XOR E`. -/
def exec_xor_e (s : State) : Result := logicA .xor (.reg .e) s

/-- R235: `XOR H`. -/
def exec_xor_h (s : State) : Result := logicA .xor (.reg .h) s

/-- R235: `XOR L`. -/
def exec_xor_l (s : State) : Result := logicA .xor (.reg .l) s

/-- R236: `XOR (HL)`. -/
def exec_xor_indHL (s : State) : Result := logicA .xor .indHL s

/-- R235: `XOR A`. -/
def exec_xor_a (s : State) : Result := logicA .xor (.reg .a) s

/-- R238: `OR B`. -/
def exec_or_b (s : State) : Result := logicA .or (.reg .b) s

/-- R238: `OR C`. -/
def exec_or_c (s : State) : Result := logicA .or (.reg .c) s

/-- R238: `OR D`. -/
def exec_or_d (s : State) : Result := logicA .or (.reg .d) s

/-- R238: `OR E`. -/
def exec_or_e (s : State) : Result := logicA .or (.reg .e) s

/-- R238: `OR H`. -/
def exec_or_h (s : State) : Result := logicA .or (.reg .h) s

/-- R238: `OR L`. -/
def exec_or_l (s : State) : Result := logicA .or (.reg .l) s

/-- R239: `OR (HL)`. -/
def exec_or_indHL (s : State) : Result := logicA .or .indHL s

/-- R238: `OR A`. -/
def exec_or_a (s : State) : Result := logicA .or (.reg .a) s

/-- R234: `AND n`. -/
def exec_and_n (s : State) : Result := logicA .and .imm s

/-- R237: `XOR n`. -/
def exec_xor_n (s : State) : Result := logicA .xor .imm s

/-- R240: `OR n`. -/
def exec_or_n (s : State) : Result := logicA .or .imm s

end Sys2Proof.Machine
end

