-- ==== Sys2Proof/Machine/Rotate.lean ====
section
/-! DEFINITION. Annex: the accumulator rotates and the CB-prefixed rotates and shifts (spec 47 R241 to R262). -/

namespace Sys2Proof.Machine

/-- RLCA, RRCA, RLA, RRA (47 R241 to R244): the rotate of A, with z, n and h cleared. -/
def rotateA (op : ShiftOp) (s : State) : Result :=
  let v := s.reg .a
  .next ((s.setReg .a (shiftRes op v s.f.c)).setFlags { z := false, n := false, h := false, c := shiftOut op v })

/-- A CB-prefixed rotate or shift: read, transform, write back to the same place, all flags written (47 R250, R251). -/
def shiftTgt (op : ShiftOp) (t : Tgt8) (s : State) : Result :=
  let r := shift op (readTgt t s) s.f.c
  .next ((writeTgt t r.res s).setFlags r.f)

/-- R241: `RLCA`. -/
def exec_rlca (s : State) : Result := rotateA .rlc s

/-- R242: `RRCA`. -/
def exec_rrca (s : State) : Result := rotateA .rrc s

/-- R243: `RLA`. -/
def exec_rla (s : State) : Result := rotateA .rl s

/-- R244: `RRA`. -/
def exec_rra (s : State) : Result := rotateA .rr s

/-- R252: `RLC B`. -/
def exec_rlc_b (s : State) : Result := shiftTgt .rlc (.reg .b) s

/-- R252: `RLC C`. -/
def exec_rlc_c (s : State) : Result := shiftTgt .rlc (.reg .c) s

/-- R252: `RLC D`. -/
def exec_rlc_d (s : State) : Result := shiftTgt .rlc (.reg .d) s

/-- R252: `RLC E`. -/
def exec_rlc_e (s : State) : Result := shiftTgt .rlc (.reg .e) s

/-- R252: `RLC H`. -/
def exec_rlc_h (s : State) : Result := shiftTgt .rlc (.reg .h) s

/-- R252: `RLC L`. -/
def exec_rlc_l (s : State) : Result := shiftTgt .rlc (.reg .l) s

/-- R253: `RLC (HL)`. -/
def exec_rlc_indHL (s : State) : Result := shiftTgt .rlc .indHL s

/-- R252: `RLC A`. -/
def exec_rlc_a (s : State) : Result := shiftTgt .rlc (.reg .a) s

/-- R254: `RRC B`. -/
def exec_rrc_b (s : State) : Result := shiftTgt .rrc (.reg .b) s

/-- R254: `RRC C`. -/
def exec_rrc_c (s : State) : Result := shiftTgt .rrc (.reg .c) s

/-- R254: `RRC D`. -/
def exec_rrc_d (s : State) : Result := shiftTgt .rrc (.reg .d) s

/-- R254: `RRC E`. -/
def exec_rrc_e (s : State) : Result := shiftTgt .rrc (.reg .e) s

/-- R254: `RRC H`. -/
def exec_rrc_h (s : State) : Result := shiftTgt .rrc (.reg .h) s

/-- R254: `RRC L`. -/
def exec_rrc_l (s : State) : Result := shiftTgt .rrc (.reg .l) s

/-- R255: `RRC (HL)`. -/
def exec_rrc_indHL (s : State) : Result := shiftTgt .rrc .indHL s

/-- R254: `RRC A`. -/
def exec_rrc_a (s : State) : Result := shiftTgt .rrc (.reg .a) s

/-- R256: `RL B`. -/
def exec_rl_b (s : State) : Result := shiftTgt .rl (.reg .b) s

/-- R256: `RL C`. -/
def exec_rl_c (s : State) : Result := shiftTgt .rl (.reg .c) s

/-- R256: `RL D`. -/
def exec_rl_d (s : State) : Result := shiftTgt .rl (.reg .d) s

/-- R256: `RL E`. -/
def exec_rl_e (s : State) : Result := shiftTgt .rl (.reg .e) s

/-- R256: `RL H`. -/
def exec_rl_h (s : State) : Result := shiftTgt .rl (.reg .h) s

/-- R256: `RL L`. -/
def exec_rl_l (s : State) : Result := shiftTgt .rl (.reg .l) s

/-- R257: `RL (HL)`. -/
def exec_rl_indHL (s : State) : Result := shiftTgt .rl .indHL s

/-- R256: `RL A`. -/
def exec_rl_a (s : State) : Result := shiftTgt .rl (.reg .a) s

/-- R258: `RR B`. -/
def exec_rr_b (s : State) : Result := shiftTgt .rr (.reg .b) s

/-- R258: `RR C`. -/
def exec_rr_c (s : State) : Result := shiftTgt .rr (.reg .c) s

/-- R258: `RR D`. -/
def exec_rr_d (s : State) : Result := shiftTgt .rr (.reg .d) s

/-- R258: `RR E`. -/
def exec_rr_e (s : State) : Result := shiftTgt .rr (.reg .e) s

/-- R258: `RR H`. -/
def exec_rr_h (s : State) : Result := shiftTgt .rr (.reg .h) s

/-- R258: `RR L`. -/
def exec_rr_l (s : State) : Result := shiftTgt .rr (.reg .l) s

/-- R259: `RR (HL)`. -/
def exec_rr_indHL (s : State) : Result := shiftTgt .rr .indHL s

/-- R258: `RR A`. -/
def exec_rr_a (s : State) : Result := shiftTgt .rr (.reg .a) s

/-- R260: `SLA B`. -/
def exec_sla_b (s : State) : Result := shiftTgt .sla (.reg .b) s

/-- R260: `SLA C`. -/
def exec_sla_c (s : State) : Result := shiftTgt .sla (.reg .c) s

/-- R260: `SLA D`. -/
def exec_sla_d (s : State) : Result := shiftTgt .sla (.reg .d) s

/-- R260: `SLA E`. -/
def exec_sla_e (s : State) : Result := shiftTgt .sla (.reg .e) s

/-- R260: `SLA H`. -/
def exec_sla_h (s : State) : Result := shiftTgt .sla (.reg .h) s

/-- R260: `SLA L`. -/
def exec_sla_l (s : State) : Result := shiftTgt .sla (.reg .l) s

/-- R260: `SLA (HL)`. -/
def exec_sla_indHL (s : State) : Result := shiftTgt .sla .indHL s

/-- R260: `SLA A`. -/
def exec_sla_a (s : State) : Result := shiftTgt .sla (.reg .a) s

/-- R261: `SRA B`. -/
def exec_sra_b (s : State) : Result := shiftTgt .sra (.reg .b) s

/-- R261: `SRA C`. -/
def exec_sra_c (s : State) : Result := shiftTgt .sra (.reg .c) s

/-- R261: `SRA D`. -/
def exec_sra_d (s : State) : Result := shiftTgt .sra (.reg .d) s

/-- R261: `SRA E`. -/
def exec_sra_e (s : State) : Result := shiftTgt .sra (.reg .e) s

/-- R261: `SRA H`. -/
def exec_sra_h (s : State) : Result := shiftTgt .sra (.reg .h) s

/-- R261: `SRA L`. -/
def exec_sra_l (s : State) : Result := shiftTgt .sra (.reg .l) s

/-- R261: `SRA (HL)`. -/
def exec_sra_indHL (s : State) : Result := shiftTgt .sra .indHL s

/-- R261: `SRA A`. -/
def exec_sra_a (s : State) : Result := shiftTgt .sra (.reg .a) s

/-- R262: `SRL B`. -/
def exec_srl_b (s : State) : Result := shiftTgt .srl (.reg .b) s

/-- R262: `SRL C`. -/
def exec_srl_c (s : State) : Result := shiftTgt .srl (.reg .c) s

/-- R262: `SRL D`. -/
def exec_srl_d (s : State) : Result := shiftTgt .srl (.reg .d) s

/-- R262: `SRL E`. -/
def exec_srl_e (s : State) : Result := shiftTgt .srl (.reg .e) s

/-- R262: `SRL H`. -/
def exec_srl_h (s : State) : Result := shiftTgt .srl (.reg .h) s

/-- R262: `SRL L`. -/
def exec_srl_l (s : State) : Result := shiftTgt .srl (.reg .l) s

/-- R262: `SRL (HL)`. -/
def exec_srl_indHL (s : State) : Result := shiftTgt .srl .indHL s

/-- R262: `SRL A`. -/
def exec_srl_a (s : State) : Result := shiftTgt .srl (.reg .a) s

end Sys2Proof.Machine
end

