-- ==== Sys2Proof/Machine/Stack.lean ====
section
/-! DEFINITION. PUSH and POP (spec 45). -/

namespace Sys2Proof.Machine

/-- PUSH rr (45 R211, R212): sp first, then the word at the new sp. -/
def push (p : Pair) (s : State) : Result :=
  let s1 := s.setSp (s.sp - 2#16)
  .next (s1.writeWord s1.sp (s1.pair p))

/-- POP rr (45 R213, R214): the word at sp, then sp, then the pair. -/
def pop (p : Pair) (s : State) : Result :=
  let w := s.readWord s.sp
  .next ((s.setSp (s.sp + 2#16)).setPair p w)

/-- R213: `POP BC`. -/
def exec_pop_bc (s : State) : Result := pop .bc s

/-- R211: `PUSH BC`. -/
def exec_push_bc (s : State) : Result := push .bc s

/-- R213: `POP DE`. -/
def exec_pop_de (s : State) : Result := pop .de s

/-- R211: `PUSH DE`. -/
def exec_push_de (s : State) : Result := push .de s

/-- R213: `POP HL`. -/
def exec_pop_hl (s : State) : Result := pop .hl s

/-- R211: `PUSH HL`. -/
def exec_push_hl (s : State) : Result := push .hl s

/-- R214: `POP AF`. -/
def exec_pop_af (s : State) : Result := pop .af s

/-- R212: `PUSH AF`. -/
def exec_push_af (s : State) : Result := push .af s

end Sys2Proof.Machine
end

