-- ==== Sys2Proof/Machine/Dispatch.lean ====
section
/-! DEFINITION. exec: the handler of each instruction (spec 40 R113). It runs on the state in which pc has been advanced
past the opcode (log 5). -/

namespace Sys2Proof.Machine

def exec (i : Instr) (s : State) : Host.Outcome State Fault Refusal :=
  match i with
  -- 8-bit arithmetic, 41
  | .add_a_b => Sys2Proof.Machine.exec_add_a_b s
  | .add_a_c => Sys2Proof.Machine.exec_add_a_c s
  | .add_a_d => Sys2Proof.Machine.exec_add_a_d s
  | .add_a_e => Sys2Proof.Machine.exec_add_a_e s
  | .add_a_h => Sys2Proof.Machine.exec_add_a_h s
  | .add_a_l => Sys2Proof.Machine.exec_add_a_l s
  | .add_a_indHL => Sys2Proof.Machine.exec_add_a_indHL s
  | .add_a_a => Sys2Proof.Machine.exec_add_a_a s
  | .adc_a_b => Sys2Proof.Machine.exec_adc_a_b s
  | .adc_a_c => Sys2Proof.Machine.exec_adc_a_c s
  | .adc_a_d => Sys2Proof.Machine.exec_adc_a_d s
  | .adc_a_e => Sys2Proof.Machine.exec_adc_a_e s
  | .adc_a_h => Sys2Proof.Machine.exec_adc_a_h s
  | .adc_a_l => Sys2Proof.Machine.exec_adc_a_l s
  | .adc_a_indHL => Sys2Proof.Machine.exec_adc_a_indHL s
  | .adc_a_a => Sys2Proof.Machine.exec_adc_a_a s
  | .sub_b => Sys2Proof.Machine.exec_sub_b s
  | .sub_c => Sys2Proof.Machine.exec_sub_c s
  | .sub_d => Sys2Proof.Machine.exec_sub_d s
  | .sub_e => Sys2Proof.Machine.exec_sub_e s
  | .sub_h => Sys2Proof.Machine.exec_sub_h s
  | .sub_l => Sys2Proof.Machine.exec_sub_l s
  | .sub_indHL => Sys2Proof.Machine.exec_sub_indHL s
  | .sub_a => Sys2Proof.Machine.exec_sub_a s
  | .add_a_n => Sys2Proof.Machine.exec_add_a_n s
  | .adc_a_n => Sys2Proof.Machine.exec_adc_a_n s
  | .sub_n => Sys2Proof.Machine.exec_sub_n s
  -- 16-bit add to HL, 42
  | .add_hl_bc => Sys2Proof.Machine.exec_add_hl_bc s
  | .add_hl_de => Sys2Proof.Machine.exec_add_hl_de s
  | .add_hl_hl => Sys2Proof.Machine.exec_add_hl_hl s
  -- 8-bit loads, 43
  | .ld_indBC_a => Sys2Proof.Machine.exec_ld_indBC_a s
  | .ld_b_n => Sys2Proof.Machine.exec_ld_b_n s
  | .ld_a_indBC => Sys2Proof.Machine.exec_ld_a_indBC s
  | .ld_c_n => Sys2Proof.Machine.exec_ld_c_n s
  | .ld_indDE_a => Sys2Proof.Machine.exec_ld_indDE_a s
  | .ld_d_n => Sys2Proof.Machine.exec_ld_d_n s
  | .ld_a_indDE => Sys2Proof.Machine.exec_ld_a_indDE s
  | .ld_e_n => Sys2Proof.Machine.exec_ld_e_n s
  | .ld_indHLI_a => Sys2Proof.Machine.exec_ld_indHLI_a s
  | .ld_h_n => Sys2Proof.Machine.exec_ld_h_n s
  | .ld_a_indHLI => Sys2Proof.Machine.exec_ld_a_indHLI s
  | .ld_l_n => Sys2Proof.Machine.exec_ld_l_n s
  | .ld_indHLD_a => Sys2Proof.Machine.exec_ld_indHLD_a s
  | .ld_indHL_n => Sys2Proof.Machine.exec_ld_indHL_n s
  | .ld_a_indHLD => Sys2Proof.Machine.exec_ld_a_indHLD s
  | .ld_a_n => Sys2Proof.Machine.exec_ld_a_n s
  | .ld_b_b => Sys2Proof.Machine.exec_ld_b_b s
  | .ld_b_c => Sys2Proof.Machine.exec_ld_b_c s
  | .ld_b_d => Sys2Proof.Machine.exec_ld_b_d s
  | .ld_b_e => Sys2Proof.Machine.exec_ld_b_e s
  | .ld_b_h => Sys2Proof.Machine.exec_ld_b_h s
  | .ld_b_l => Sys2Proof.Machine.exec_ld_b_l s
  | .ld_b_indHL => Sys2Proof.Machine.exec_ld_b_indHL s
  | .ld_b_a => Sys2Proof.Machine.exec_ld_b_a s
  | .ld_c_b => Sys2Proof.Machine.exec_ld_c_b s
  | .ld_c_c => Sys2Proof.Machine.exec_ld_c_c s
  | .ld_c_d => Sys2Proof.Machine.exec_ld_c_d s
  | .ld_c_e => Sys2Proof.Machine.exec_ld_c_e s
  | .ld_c_h => Sys2Proof.Machine.exec_ld_c_h s
  | .ld_c_l => Sys2Proof.Machine.exec_ld_c_l s
  | .ld_c_indHL => Sys2Proof.Machine.exec_ld_c_indHL s
  | .ld_c_a => Sys2Proof.Machine.exec_ld_c_a s
  | .ld_d_b => Sys2Proof.Machine.exec_ld_d_b s
  | .ld_d_c => Sys2Proof.Machine.exec_ld_d_c s
  | .ld_d_d => Sys2Proof.Machine.exec_ld_d_d s
  | .ld_d_e => Sys2Proof.Machine.exec_ld_d_e s
  | .ld_d_h => Sys2Proof.Machine.exec_ld_d_h s
  | .ld_d_l => Sys2Proof.Machine.exec_ld_d_l s
  | .ld_d_indHL => Sys2Proof.Machine.exec_ld_d_indHL s
  | .ld_d_a => Sys2Proof.Machine.exec_ld_d_a s
  | .ld_e_b => Sys2Proof.Machine.exec_ld_e_b s
  | .ld_e_c => Sys2Proof.Machine.exec_ld_e_c s
  | .ld_e_d => Sys2Proof.Machine.exec_ld_e_d s
  | .ld_e_e => Sys2Proof.Machine.exec_ld_e_e s
  | .ld_e_h => Sys2Proof.Machine.exec_ld_e_h s
  | .ld_e_l => Sys2Proof.Machine.exec_ld_e_l s
  | .ld_e_indHL => Sys2Proof.Machine.exec_ld_e_indHL s
  | .ld_e_a => Sys2Proof.Machine.exec_ld_e_a s
  | .ld_h_b => Sys2Proof.Machine.exec_ld_h_b s
  | .ld_h_c => Sys2Proof.Machine.exec_ld_h_c s
  | .ld_h_d => Sys2Proof.Machine.exec_ld_h_d s
  | .ld_h_e => Sys2Proof.Machine.exec_ld_h_e s
  | .ld_h_h => Sys2Proof.Machine.exec_ld_h_h s
  | .ld_h_l => Sys2Proof.Machine.exec_ld_h_l s
  | .ld_h_indHL => Sys2Proof.Machine.exec_ld_h_indHL s
  | .ld_h_a => Sys2Proof.Machine.exec_ld_h_a s
  | .ld_l_b => Sys2Proof.Machine.exec_ld_l_b s
  | .ld_l_c => Sys2Proof.Machine.exec_ld_l_c s
  | .ld_l_d => Sys2Proof.Machine.exec_ld_l_d s
  | .ld_l_e => Sys2Proof.Machine.exec_ld_l_e s
  | .ld_l_h => Sys2Proof.Machine.exec_ld_l_h s
  | .ld_l_l => Sys2Proof.Machine.exec_ld_l_l s
  | .ld_l_indHL => Sys2Proof.Machine.exec_ld_l_indHL s
  | .ld_l_a => Sys2Proof.Machine.exec_ld_l_a s
  | .ld_indHL_b => Sys2Proof.Machine.exec_ld_indHL_b s
  | .ld_indHL_c => Sys2Proof.Machine.exec_ld_indHL_c s
  | .ld_indHL_d => Sys2Proof.Machine.exec_ld_indHL_d s
  | .ld_indHL_e => Sys2Proof.Machine.exec_ld_indHL_e s
  | .ld_indHL_h => Sys2Proof.Machine.exec_ld_indHL_h s
  | .ld_indHL_l => Sys2Proof.Machine.exec_ld_indHL_l s
  | .ld_indHL_a => Sys2Proof.Machine.exec_ld_indHL_a s
  | .ld_a_b => Sys2Proof.Machine.exec_ld_a_b s
  | .ld_a_c => Sys2Proof.Machine.exec_ld_a_c s
  | .ld_a_d => Sys2Proof.Machine.exec_ld_a_d s
  | .ld_a_e => Sys2Proof.Machine.exec_ld_a_e s
  | .ld_a_h => Sys2Proof.Machine.exec_ld_a_h s
  | .ld_a_l => Sys2Proof.Machine.exec_ld_a_l s
  | .ld_a_indHL => Sys2Proof.Machine.exec_ld_a_indHL s
  | .ld_a_a => Sys2Proof.Machine.exec_ld_a_a s
  | .ldh_indN_a => Sys2Proof.Machine.exec_ldh_indN_a s
  | .ldh_indC_a => Sys2Proof.Machine.exec_ldh_indC_a s
  | .ld_indNN_a => Sys2Proof.Machine.exec_ld_indNN_a s
  | .ldh_a_indN => Sys2Proof.Machine.exec_ldh_a_indN s
  | .ldh_a_indC => Sys2Proof.Machine.exec_ldh_a_indC s
  | .ld_a_indNN => Sys2Proof.Machine.exec_ld_a_indNN s
  -- 16-bit loads and stack-pointer transfers, 44
  | .ld_bc_nn => Sys2Proof.Machine.exec_ld_bc_nn s
  | .ld_indNN_sp => Sys2Proof.Machine.exec_ld_indNN_sp s
  | .ld_de_nn => Sys2Proof.Machine.exec_ld_de_nn s
  | .ld_hl_nn => Sys2Proof.Machine.exec_ld_hl_nn s
  | .ld_sp_nn => Sys2Proof.Machine.exec_ld_sp_nn s
  | .ld_sp_hl => Sys2Proof.Machine.exec_ld_sp_hl s
  -- PUSH and POP, 45
  | .pop_bc => Sys2Proof.Machine.exec_pop_bc s
  | .push_bc => Sys2Proof.Machine.exec_push_bc s
  | .pop_de => Sys2Proof.Machine.exec_pop_de s
  | .push_de => Sys2Proof.Machine.exec_push_de s
  | .pop_hl => Sys2Proof.Machine.exec_pop_hl s
  | .push_hl => Sys2Proof.Machine.exec_push_hl s
  | .pop_af => Sys2Proof.Machine.exec_pop_af s
  | .push_af => Sys2Proof.Machine.exec_push_af s
  -- jumps, 46
  | .jp_nz_nn => Sys2Proof.Machine.exec_jp_nz_nn s
  | .jp_nn => Sys2Proof.Machine.exec_jp_nn s
  | .jp_z_nn => Sys2Proof.Machine.exec_jp_z_nn s
  | .jp_nc_nn => Sys2Proof.Machine.exec_jp_nc_nn s
  | .jp_c_nn => Sys2Proof.Machine.exec_jp_c_nn s
  -- annex: AND, XOR, OR, 47
  | .and_b => Sys2Proof.Machine.exec_and_b s
  | .and_c => Sys2Proof.Machine.exec_and_c s
  | .and_d => Sys2Proof.Machine.exec_and_d s
  | .and_e => Sys2Proof.Machine.exec_and_e s
  | .and_h => Sys2Proof.Machine.exec_and_h s
  | .and_l => Sys2Proof.Machine.exec_and_l s
  | .and_indHL => Sys2Proof.Machine.exec_and_indHL s
  | .and_a => Sys2Proof.Machine.exec_and_a s
  | .xor_b => Sys2Proof.Machine.exec_xor_b s
  | .xor_c => Sys2Proof.Machine.exec_xor_c s
  | .xor_d => Sys2Proof.Machine.exec_xor_d s
  | .xor_e => Sys2Proof.Machine.exec_xor_e s
  | .xor_h => Sys2Proof.Machine.exec_xor_h s
  | .xor_l => Sys2Proof.Machine.exec_xor_l s
  | .xor_indHL => Sys2Proof.Machine.exec_xor_indHL s
  | .xor_a => Sys2Proof.Machine.exec_xor_a s
  | .or_b => Sys2Proof.Machine.exec_or_b s
  | .or_c => Sys2Proof.Machine.exec_or_c s
  | .or_d => Sys2Proof.Machine.exec_or_d s
  | .or_e => Sys2Proof.Machine.exec_or_e s
  | .or_h => Sys2Proof.Machine.exec_or_h s
  | .or_l => Sys2Proof.Machine.exec_or_l s
  | .or_indHL => Sys2Proof.Machine.exec_or_indHL s
  | .or_a => Sys2Proof.Machine.exec_or_a s
  | .and_n => Sys2Proof.Machine.exec_and_n s
  | .xor_n => Sys2Proof.Machine.exec_xor_n s
  | .or_n => Sys2Proof.Machine.exec_or_n s
  -- annex: accumulator rotates, 47
  | .rlca => Sys2Proof.Machine.exec_rlca s
  | .rrca => Sys2Proof.Machine.exec_rrca s
  | .rla => Sys2Proof.Machine.exec_rla s
  | .rra => Sys2Proof.Machine.exec_rra s
  -- annex: CB-prefixed rotates and shifts, 47
  | .rlc_b => Sys2Proof.Machine.exec_rlc_b s
  | .rlc_c => Sys2Proof.Machine.exec_rlc_c s
  | .rlc_d => Sys2Proof.Machine.exec_rlc_d s
  | .rlc_e => Sys2Proof.Machine.exec_rlc_e s
  | .rlc_h => Sys2Proof.Machine.exec_rlc_h s
  | .rlc_l => Sys2Proof.Machine.exec_rlc_l s
  | .rlc_indHL => Sys2Proof.Machine.exec_rlc_indHL s
  | .rlc_a => Sys2Proof.Machine.exec_rlc_a s
  | .rrc_b => Sys2Proof.Machine.exec_rrc_b s
  | .rrc_c => Sys2Proof.Machine.exec_rrc_c s
  | .rrc_d => Sys2Proof.Machine.exec_rrc_d s
  | .rrc_e => Sys2Proof.Machine.exec_rrc_e s
  | .rrc_h => Sys2Proof.Machine.exec_rrc_h s
  | .rrc_l => Sys2Proof.Machine.exec_rrc_l s
  | .rrc_indHL => Sys2Proof.Machine.exec_rrc_indHL s
  | .rrc_a => Sys2Proof.Machine.exec_rrc_a s
  | .rl_b => Sys2Proof.Machine.exec_rl_b s
  | .rl_c => Sys2Proof.Machine.exec_rl_c s
  | .rl_d => Sys2Proof.Machine.exec_rl_d s
  | .rl_e => Sys2Proof.Machine.exec_rl_e s
  | .rl_h => Sys2Proof.Machine.exec_rl_h s
  | .rl_l => Sys2Proof.Machine.exec_rl_l s
  | .rl_indHL => Sys2Proof.Machine.exec_rl_indHL s
  | .rl_a => Sys2Proof.Machine.exec_rl_a s
  | .rr_b => Sys2Proof.Machine.exec_rr_b s
  | .rr_c => Sys2Proof.Machine.exec_rr_c s
  | .rr_d => Sys2Proof.Machine.exec_rr_d s
  | .rr_e => Sys2Proof.Machine.exec_rr_e s
  | .rr_h => Sys2Proof.Machine.exec_rr_h s
  | .rr_l => Sys2Proof.Machine.exec_rr_l s
  | .rr_indHL => Sys2Proof.Machine.exec_rr_indHL s
  | .rr_a => Sys2Proof.Machine.exec_rr_a s
  | .sla_b => Sys2Proof.Machine.exec_sla_b s
  | .sla_c => Sys2Proof.Machine.exec_sla_c s
  | .sla_d => Sys2Proof.Machine.exec_sla_d s
  | .sla_e => Sys2Proof.Machine.exec_sla_e s
  | .sla_h => Sys2Proof.Machine.exec_sla_h s
  | .sla_l => Sys2Proof.Machine.exec_sla_l s
  | .sla_indHL => Sys2Proof.Machine.exec_sla_indHL s
  | .sla_a => Sys2Proof.Machine.exec_sla_a s
  | .sra_b => Sys2Proof.Machine.exec_sra_b s
  | .sra_c => Sys2Proof.Machine.exec_sra_c s
  | .sra_d => Sys2Proof.Machine.exec_sra_d s
  | .sra_e => Sys2Proof.Machine.exec_sra_e s
  | .sra_h => Sys2Proof.Machine.exec_sra_h s
  | .sra_l => Sys2Proof.Machine.exec_sra_l s
  | .sra_indHL => Sys2Proof.Machine.exec_sra_indHL s
  | .sra_a => Sys2Proof.Machine.exec_sra_a s
  | .srl_b => Sys2Proof.Machine.exec_srl_b s
  | .srl_c => Sys2Proof.Machine.exec_srl_c s
  | .srl_d => Sys2Proof.Machine.exec_srl_d s
  | .srl_e => Sys2Proof.Machine.exec_srl_e s
  | .srl_h => Sys2Proof.Machine.exec_srl_h s
  | .srl_l => Sys2Proof.Machine.exec_srl_l s
  | .srl_indHL => Sys2Proof.Machine.exec_srl_indHL s
  | .srl_a => Sys2Proof.Machine.exec_srl_a s

end Sys2Proof.Machine
end

