-- ==== Sys2Proof/Machine/Variant.lean ====
section
/-! DEFINITION. The Instruction values of spec 30 R85 and 47 R230 (an operation with its operand selectors), the value
each row of the table names, and the format of each (30 R81, R87). -/

namespace Sys2Proof

/-- The type `Instruction` of 30 R85, with the annex's variants (47 R230). -/
inductive Variant where
  | add (src : Src8) | adc (src : Src8) | sub (src : Src8)
  | addHL (p : AddPair)
  | ldRegReg (dst src : Reg8) | ldRegImm (r : Reg8)
  | ldRegIndHL (r : Reg8) | ldIndHLReg (r : Reg8) | ldIndHLImm
  | ldAIndBC | ldAIndDE | ldIndBCA | ldIndDEA
  | ldAIndNN | ldIndNNA
  | ldhAIndC | ldhIndCA | ldhAIndN | ldhIndNA
  | ldAIndHLInc | ldAIndHLDec | ldIndHLIncA | ldIndHLDecA
  | ldPairImm (p : LoadPair) | ldIndNNSP | ldSPHL
  | push (p : Pair) | pop (p : Pair)
  | jp | jpCond (cc : Cond)
  | and (src : Src8) | xor (src : Src8) | or (src : Src8)
  | rlca | rrca | rla | rra
  | rlc (t : Tgt8) | rrc (t : Tgt8) | rl (t : Tgt8) | rr (t : Tgt8)
  | sla (t : Tgt8) | sra (t : Tgt8) | srl (t : Tgt8)
  deriving DecidableEq, Repr

/-- The Instruction value of each row (the table's `instruction` column). -/
def Instr.variant : Instr → Variant
  | .add_a_b => .add (.reg .b)
  | .add_a_c => .add (.reg .c)
  | .add_a_d => .add (.reg .d)
  | .add_a_e => .add (.reg .e)
  | .add_a_h => .add (.reg .h)
  | .add_a_l => .add (.reg .l)
  | .add_a_indHL => .add .indHL
  | .add_a_a => .add (.reg .a)
  | .adc_a_b => .adc (.reg .b)
  | .adc_a_c => .adc (.reg .c)
  | .adc_a_d => .adc (.reg .d)
  | .adc_a_e => .adc (.reg .e)
  | .adc_a_h => .adc (.reg .h)
  | .adc_a_l => .adc (.reg .l)
  | .adc_a_indHL => .adc .indHL
  | .adc_a_a => .adc (.reg .a)
  | .sub_b => .sub (.reg .b)
  | .sub_c => .sub (.reg .c)
  | .sub_d => .sub (.reg .d)
  | .sub_e => .sub (.reg .e)
  | .sub_h => .sub (.reg .h)
  | .sub_l => .sub (.reg .l)
  | .sub_indHL => .sub .indHL
  | .sub_a => .sub (.reg .a)
  | .add_a_n => .add .imm
  | .adc_a_n => .adc .imm
  | .sub_n => .sub .imm
  | .add_hl_bc => .addHL .bc
  | .add_hl_de => .addHL .de
  | .add_hl_hl => .addHL .hl
  | .ld_indBC_a => .ldIndBCA
  | .ld_b_n => .ldRegImm .b
  | .ld_a_indBC => .ldAIndBC
  | .ld_c_n => .ldRegImm .c
  | .ld_indDE_a => .ldIndDEA
  | .ld_d_n => .ldRegImm .d
  | .ld_a_indDE => .ldAIndDE
  | .ld_e_n => .ldRegImm .e
  | .ld_indHLI_a => .ldIndHLIncA
  | .ld_h_n => .ldRegImm .h
  | .ld_a_indHLI => .ldAIndHLInc
  | .ld_l_n => .ldRegImm .l
  | .ld_indHLD_a => .ldIndHLDecA
  | .ld_indHL_n => .ldIndHLImm
  | .ld_a_indHLD => .ldAIndHLDec
  | .ld_a_n => .ldRegImm .a
  | .ld_b_b => .ldRegReg .b .b
  | .ld_b_c => .ldRegReg .b .c
  | .ld_b_d => .ldRegReg .b .d
  | .ld_b_e => .ldRegReg .b .e
  | .ld_b_h => .ldRegReg .b .h
  | .ld_b_l => .ldRegReg .b .l
  | .ld_b_indHL => .ldRegIndHL .b
  | .ld_b_a => .ldRegReg .b .a
  | .ld_c_b => .ldRegReg .c .b
  | .ld_c_c => .ldRegReg .c .c
  | .ld_c_d => .ldRegReg .c .d
  | .ld_c_e => .ldRegReg .c .e
  | .ld_c_h => .ldRegReg .c .h
  | .ld_c_l => .ldRegReg .c .l
  | .ld_c_indHL => .ldRegIndHL .c
  | .ld_c_a => .ldRegReg .c .a
  | .ld_d_b => .ldRegReg .d .b
  | .ld_d_c => .ldRegReg .d .c
  | .ld_d_d => .ldRegReg .d .d
  | .ld_d_e => .ldRegReg .d .e
  | .ld_d_h => .ldRegReg .d .h
  | .ld_d_l => .ldRegReg .d .l
  | .ld_d_indHL => .ldRegIndHL .d
  | .ld_d_a => .ldRegReg .d .a
  | .ld_e_b => .ldRegReg .e .b
  | .ld_e_c => .ldRegReg .e .c
  | .ld_e_d => .ldRegReg .e .d
  | .ld_e_e => .ldRegReg .e .e
  | .ld_e_h => .ldRegReg .e .h
  | .ld_e_l => .ldRegReg .e .l
  | .ld_e_indHL => .ldRegIndHL .e
  | .ld_e_a => .ldRegReg .e .a
  | .ld_h_b => .ldRegReg .h .b
  | .ld_h_c => .ldRegReg .h .c
  | .ld_h_d => .ldRegReg .h .d
  | .ld_h_e => .ldRegReg .h .e
  | .ld_h_h => .ldRegReg .h .h
  | .ld_h_l => .ldRegReg .h .l
  | .ld_h_indHL => .ldRegIndHL .h
  | .ld_h_a => .ldRegReg .h .a
  | .ld_l_b => .ldRegReg .l .b
  | .ld_l_c => .ldRegReg .l .c
  | .ld_l_d => .ldRegReg .l .d
  | .ld_l_e => .ldRegReg .l .e
  | .ld_l_h => .ldRegReg .l .h
  | .ld_l_l => .ldRegReg .l .l
  | .ld_l_indHL => .ldRegIndHL .l
  | .ld_l_a => .ldRegReg .l .a
  | .ld_indHL_b => .ldIndHLReg .b
  | .ld_indHL_c => .ldIndHLReg .c
  | .ld_indHL_d => .ldIndHLReg .d
  | .ld_indHL_e => .ldIndHLReg .e
  | .ld_indHL_h => .ldIndHLReg .h
  | .ld_indHL_l => .ldIndHLReg .l
  | .ld_indHL_a => .ldIndHLReg .a
  | .ld_a_b => .ldRegReg .a .b
  | .ld_a_c => .ldRegReg .a .c
  | .ld_a_d => .ldRegReg .a .d
  | .ld_a_e => .ldRegReg .a .e
  | .ld_a_h => .ldRegReg .a .h
  | .ld_a_l => .ldRegReg .a .l
  | .ld_a_indHL => .ldRegIndHL .a
  | .ld_a_a => .ldRegReg .a .a
  | .ldh_indN_a => .ldhIndNA
  | .ldh_indC_a => .ldhIndCA
  | .ld_indNN_a => .ldIndNNA
  | .ldh_a_indN => .ldhAIndN
  | .ldh_a_indC => .ldhAIndC
  | .ld_a_indNN => .ldAIndNN
  | .ld_bc_nn => .ldPairImm .bc
  | .ld_indNN_sp => .ldIndNNSP
  | .ld_de_nn => .ldPairImm .de
  | .ld_hl_nn => .ldPairImm .hl
  | .ld_sp_nn => .ldPairImm .sp
  | .ld_sp_hl => .ldSPHL
  | .pop_bc => .pop .bc
  | .push_bc => .push .bc
  | .pop_de => .pop .de
  | .push_de => .push .de
  | .pop_hl => .pop .hl
  | .push_hl => .push .hl
  | .pop_af => .pop .af
  | .push_af => .push .af
  | .jp_nz_nn => .jpCond .nz
  | .jp_nn => .jp
  | .jp_z_nn => .jpCond .z
  | .jp_nc_nn => .jpCond .nc
  | .jp_c_nn => .jpCond .c
  | .and_b => .and (.reg .b)
  | .and_c => .and (.reg .c)
  | .and_d => .and (.reg .d)
  | .and_e => .and (.reg .e)
  | .and_h => .and (.reg .h)
  | .and_l => .and (.reg .l)
  | .and_indHL => .and .indHL
  | .and_a => .and (.reg .a)
  | .xor_b => .xor (.reg .b)
  | .xor_c => .xor (.reg .c)
  | .xor_d => .xor (.reg .d)
  | .xor_e => .xor (.reg .e)
  | .xor_h => .xor (.reg .h)
  | .xor_l => .xor (.reg .l)
  | .xor_indHL => .xor .indHL
  | .xor_a => .xor (.reg .a)
  | .or_b => .or (.reg .b)
  | .or_c => .or (.reg .c)
  | .or_d => .or (.reg .d)
  | .or_e => .or (.reg .e)
  | .or_h => .or (.reg .h)
  | .or_l => .or (.reg .l)
  | .or_indHL => .or .indHL
  | .or_a => .or (.reg .a)
  | .and_n => .and .imm
  | .xor_n => .xor .imm
  | .or_n => .or .imm
  | .rlca => .rlca
  | .rrca => .rrca
  | .rla => .rla
  | .rra => .rra
  | .rlc_b => .rlc (.reg .b)
  | .rlc_c => .rlc (.reg .c)
  | .rlc_d => .rlc (.reg .d)
  | .rlc_e => .rlc (.reg .e)
  | .rlc_h => .rlc (.reg .h)
  | .rlc_l => .rlc (.reg .l)
  | .rlc_indHL => .rlc .indHL
  | .rlc_a => .rlc (.reg .a)
  | .rrc_b => .rrc (.reg .b)
  | .rrc_c => .rrc (.reg .c)
  | .rrc_d => .rrc (.reg .d)
  | .rrc_e => .rrc (.reg .e)
  | .rrc_h => .rrc (.reg .h)
  | .rrc_l => .rrc (.reg .l)
  | .rrc_indHL => .rrc .indHL
  | .rrc_a => .rrc (.reg .a)
  | .rl_b => .rl (.reg .b)
  | .rl_c => .rl (.reg .c)
  | .rl_d => .rl (.reg .d)
  | .rl_e => .rl (.reg .e)
  | .rl_h => .rl (.reg .h)
  | .rl_l => .rl (.reg .l)
  | .rl_indHL => .rl .indHL
  | .rl_a => .rl (.reg .a)
  | .rr_b => .rr (.reg .b)
  | .rr_c => .rr (.reg .c)
  | .rr_d => .rr (.reg .d)
  | .rr_e => .rr (.reg .e)
  | .rr_h => .rr (.reg .h)
  | .rr_l => .rr (.reg .l)
  | .rr_indHL => .rr .indHL
  | .rr_a => .rr (.reg .a)
  | .sla_b => .sla (.reg .b)
  | .sla_c => .sla (.reg .c)
  | .sla_d => .sla (.reg .d)
  | .sla_e => .sla (.reg .e)
  | .sla_h => .sla (.reg .h)
  | .sla_l => .sla (.reg .l)
  | .sla_indHL => .sla .indHL
  | .sla_a => .sla (.reg .a)
  | .sra_b => .sra (.reg .b)
  | .sra_c => .sra (.reg .c)
  | .sra_d => .sra (.reg .d)
  | .sra_e => .sra (.reg .e)
  | .sra_h => .sra (.reg .h)
  | .sra_l => .sra (.reg .l)
  | .sra_indHL => .sra .indHL
  | .sra_a => .sra (.reg .a)
  | .srl_b => .srl (.reg .b)
  | .srl_c => .srl (.reg .c)
  | .srl_d => .srl (.reg .d)
  | .srl_e => .srl (.reg .e)
  | .srl_h => .srl (.reg .h)
  | .srl_l => .srl (.reg .l)
  | .srl_indHL => .srl .indHL
  | .srl_a => .srl (.reg .a)

/-- Whether a variant takes its operand from the instruction stream, for the ALU families. -/
def srcFormat : Src8 → Format
  | .reg _ => .op
  | .indHL => .op
  | .imm => .opN8

/-- The format of each variant (30 R81, R87, 47 R250). -/
def Variant.format : Variant → Format
  | .add s | .adc s | .sub s | .and s | .xor s | .or s => srcFormat s
  | .ldRegImm _ | .ldIndHLImm | .ldhAIndN | .ldhIndNA => .opN8
  | .ldPairImm _ | .ldIndNNSP | .ldAIndNN | .ldIndNNA | .jp | .jpCond _ => .opN16
  | .rlc _ | .rrc _ | .rl _ | .rr _ | .sla _ | .sra _ | .srl _ => .cbOp
  | .addHL _ | .ldRegReg _ _ | .ldRegIndHL _ | .ldIndHLReg _ | .ldAIndBC | .ldAIndDE | .ldIndBCA | .ldIndDEA
  | .ldhAIndC | .ldhIndCA | .ldAIndHLInc | .ldAIndHLDec | .ldIndHLIncA | .ldIndHLDecA | .ldSPHL
  | .push _ | .pop _ | .rlca | .rrca | .rla | .rra => .op

/-- Whether a variant belongs to the annex set (00 R12, 47 R230). -/
def Variant.annex : Variant → Bool
  | .and _ | .xor _ | .or _ | .rlca | .rrca | .rla | .rra
  | .rlc _ | .rrc _ | .rl _ | .rr _ | .sla _ | .sra _ | .srl _ => true
  | .add _ | .adc _ | .sub _ | .addHL _ | .ldRegReg _ _ | .ldRegImm _ | .ldRegIndHL _ | .ldIndHLReg _ | .ldIndHLImm
  | .ldAIndBC | .ldAIndDE | .ldIndBCA | .ldIndDEA | .ldAIndNN | .ldIndNNA | .ldhAIndC | .ldhIndCA | .ldhAIndN
  | .ldhIndNA | .ldAIndHLInc | .ldAIndHLDec | .ldIndHLIncA | .ldIndHLDecA | .ldPairImm _ | .ldIndNNSP | .ldSPHL
  | .push _ | .pop _ | .jp | .jpCond _ => false

/-- Whether the variant is a CB-prefixed one, that is in the second table (30 R82, 47 R250). -/
def Variant.prefixed (v : Variant) : Bool := v.format == .cbOp

/-- The number of operand bytes after the opcode (30 R80, R81). -/
def Format.operandWidth : Format → Nat
  | .op => 0
  | .opN8 => 1
  | .opN16 => 2
  | .cbOp => 0

/-- The number of bytes of the instruction (30 R81). -/
def Format.length : Format → Nat
  | .op => 1
  | .opN8 => 2
  | .opN16 => 3
  | .cbOp => 2

/-- The operand bytes of an instruction. -/
def Instr.operandWidth (i : Instr) : Nat := i.variant.format.operandWidth

/-- The length of an instruction in bytes (30 R81, R91). -/
def Instr.length (i : Instr) : Nat := i.variant.format.length

/-- Whether an instruction stands in the second table. -/
def Instr.prefixed (i : Instr) : Bool := i.variant.prefixed

end Sys2Proof
end

