-- ==== Sys2Proof/WellFormed.lean ====
section
/-! DEFINITION. What is checked of an instruction: that it is in the admitted set, and that an instruction written out
with its operand bytes has as many as its format says. -/

namespace Sys2Proof

/-- The instruction is in the set that `ADMIT_ANNEX` admits (00 R5, 47 R230). -/
def Instr.admitted (admitAnnex : Bool) (i : Instr) : Bool := !i.variant.annex || admitAnnex

/-- An instruction as it stands in memory: the Instruction and its operand bytes in ascending order (30 R80). -/
structure Code where
  instr : Instr
  operand : List Byte
  deriving DecidableEq, Repr

/-- The operand has the width of the instruction's format (30 R81). -/
def Code.operandFits (c : Code) : Bool := c.operand.length == c.instr.operandWidth

/-- Well-formed under a value of `ADMIT_ANNEX`. -/
def Code.wf (admitAnnex : Bool) (c : Code) : Bool := c.instr.admitted admitAnnex && c.operandFits

end Sys2Proof
end

