-- ==== Sys2Proof/Decode.lean ====
section
/-! DEFINITION. The two decode tables (30 R83, R87, R88, 47 R250) as lists of the rows of spec/opcode_table.json, the
decoder, total on any bytes, and the encoder, written from the patterns of 30 R87 and 47 R250. -/

namespace Sys2Proof

/-- Part 0 of `normativeRows`. -/
def normativeRows0 : List (Byte × Instr) :=
  [(0x01#8, .ld_bc_nn), (0x02#8, .ld_indBC_a), (0x06#8, .ld_b_n), (0x08#8, .ld_indNN_sp),
   (0x09#8, .add_hl_bc), (0x0A#8, .ld_a_indBC), (0x0E#8, .ld_c_n), (0x11#8, .ld_de_nn),
   (0x12#8, .ld_indDE_a), (0x16#8, .ld_d_n), (0x19#8, .add_hl_de), (0x1A#8, .ld_a_indDE),
   (0x1E#8, .ld_e_n), (0x21#8, .ld_hl_nn), (0x22#8, .ld_indHLI_a), (0x26#8, .ld_h_n)]

/-- Part 1 of `normativeRows`. -/
def normativeRows1 : List (Byte × Instr) :=
  [(0x29#8, .add_hl_hl), (0x2A#8, .ld_a_indHLI), (0x2E#8, .ld_l_n), (0x31#8, .ld_sp_nn),
   (0x32#8, .ld_indHLD_a), (0x36#8, .ld_indHL_n), (0x3A#8, .ld_a_indHLD), (0x3E#8, .ld_a_n),
   (0x40#8, .ld_b_b), (0x41#8, .ld_b_c), (0x42#8, .ld_b_d), (0x43#8, .ld_b_e),
   (0x44#8, .ld_b_h), (0x45#8, .ld_b_l), (0x46#8, .ld_b_indHL), (0x47#8, .ld_b_a)]

/-- Part 2 of `normativeRows`. -/
def normativeRows2 : List (Byte × Instr) :=
  [(0x48#8, .ld_c_b), (0x49#8, .ld_c_c), (0x4A#8, .ld_c_d), (0x4B#8, .ld_c_e),
   (0x4C#8, .ld_c_h), (0x4D#8, .ld_c_l), (0x4E#8, .ld_c_indHL), (0x4F#8, .ld_c_a),
   (0x50#8, .ld_d_b), (0x51#8, .ld_d_c), (0x52#8, .ld_d_d), (0x53#8, .ld_d_e),
   (0x54#8, .ld_d_h), (0x55#8, .ld_d_l), (0x56#8, .ld_d_indHL), (0x57#8, .ld_d_a)]

/-- Part 3 of `normativeRows`. -/
def normativeRows3 : List (Byte × Instr) :=
  [(0x58#8, .ld_e_b), (0x59#8, .ld_e_c), (0x5A#8, .ld_e_d), (0x5B#8, .ld_e_e),
   (0x5C#8, .ld_e_h), (0x5D#8, .ld_e_l), (0x5E#8, .ld_e_indHL), (0x5F#8, .ld_e_a),
   (0x60#8, .ld_h_b), (0x61#8, .ld_h_c), (0x62#8, .ld_h_d), (0x63#8, .ld_h_e),
   (0x64#8, .ld_h_h), (0x65#8, .ld_h_l), (0x66#8, .ld_h_indHL), (0x67#8, .ld_h_a)]

/-- Part 4 of `normativeRows`. -/
def normativeRows4 : List (Byte × Instr) :=
  [(0x68#8, .ld_l_b), (0x69#8, .ld_l_c), (0x6A#8, .ld_l_d), (0x6B#8, .ld_l_e),
   (0x6C#8, .ld_l_h), (0x6D#8, .ld_l_l), (0x6E#8, .ld_l_indHL), (0x6F#8, .ld_l_a),
   (0x70#8, .ld_indHL_b), (0x71#8, .ld_indHL_c), (0x72#8, .ld_indHL_d), (0x73#8, .ld_indHL_e),
   (0x74#8, .ld_indHL_h), (0x75#8, .ld_indHL_l), (0x77#8, .ld_indHL_a), (0x78#8, .ld_a_b)]

/-- Part 5 of `normativeRows`. -/
def normativeRows5 : List (Byte × Instr) :=
  [(0x79#8, .ld_a_c), (0x7A#8, .ld_a_d), (0x7B#8, .ld_a_e), (0x7C#8, .ld_a_h),
   (0x7D#8, .ld_a_l), (0x7E#8, .ld_a_indHL), (0x7F#8, .ld_a_a), (0x80#8, .add_a_b),
   (0x81#8, .add_a_c), (0x82#8, .add_a_d), (0x83#8, .add_a_e), (0x84#8, .add_a_h),
   (0x85#8, .add_a_l), (0x86#8, .add_a_indHL), (0x87#8, .add_a_a), (0x88#8, .adc_a_b)]

/-- Part 6 of `normativeRows`. -/
def normativeRows6 : List (Byte × Instr) :=
  [(0x89#8, .adc_a_c), (0x8A#8, .adc_a_d), (0x8B#8, .adc_a_e), (0x8C#8, .adc_a_h),
   (0x8D#8, .adc_a_l), (0x8E#8, .adc_a_indHL), (0x8F#8, .adc_a_a), (0x90#8, .sub_b),
   (0x91#8, .sub_c), (0x92#8, .sub_d), (0x93#8, .sub_e), (0x94#8, .sub_h),
   (0x95#8, .sub_l), (0x96#8, .sub_indHL), (0x97#8, .sub_a), (0xC1#8, .pop_bc)]

/-- Part 7 of `normativeRows`. -/
def normativeRows7 : List (Byte × Instr) :=
  [(0xC2#8, .jp_nz_nn), (0xC3#8, .jp_nn), (0xC5#8, .push_bc), (0xC6#8, .add_a_n),
   (0xCA#8, .jp_z_nn), (0xCE#8, .adc_a_n), (0xD1#8, .pop_de), (0xD2#8, .jp_nc_nn),
   (0xD5#8, .push_de), (0xD6#8, .sub_n), (0xDA#8, .jp_c_nn), (0xE0#8, .ldh_indN_a),
   (0xE1#8, .pop_hl), (0xE2#8, .ldh_indC_a), (0xE5#8, .push_hl), (0xEA#8, .ld_indNN_a)]

/-- Part 8 of `normativeRows`. -/
def normativeRows8 : List (Byte × Instr) :=
  [(0xF0#8, .ldh_a_indN), (0xF1#8, .pop_af), (0xF2#8, .ldh_a_indC), (0xF5#8, .push_af),
   (0xF9#8, .ld_sp_hl), (0xFA#8, .ld_a_indNN)]

/-- The rows with `set` = `normative`: 134 opcode bytes of the first table (30 R87). -/
def normativeRows : List (Byte × Instr) :=
  normativeRows0 ++ normativeRows1 ++ normativeRows2 ++ normativeRows3 ++ normativeRows4 ++ normativeRows5 ++
  normativeRows6 ++ normativeRows7 ++ normativeRows8

/-- Part 0 of `annexRows`. -/
def annexRows0 : List (Byte × Instr) :=
  [(0x07#8, .rlca), (0x0F#8, .rrca), (0x17#8, .rla), (0x1F#8, .rra),
   (0xA0#8, .and_b), (0xA1#8, .and_c), (0xA2#8, .and_d), (0xA3#8, .and_e),
   (0xA4#8, .and_h), (0xA5#8, .and_l), (0xA6#8, .and_indHL), (0xA7#8, .and_a),
   (0xA8#8, .xor_b), (0xA9#8, .xor_c), (0xAA#8, .xor_d), (0xAB#8, .xor_e)]

/-- Part 1 of `annexRows`. -/
def annexRows1 : List (Byte × Instr) :=
  [(0xAC#8, .xor_h), (0xAD#8, .xor_l), (0xAE#8, .xor_indHL), (0xAF#8, .xor_a),
   (0xB0#8, .or_b), (0xB1#8, .or_c), (0xB2#8, .or_d), (0xB3#8, .or_e),
   (0xB4#8, .or_h), (0xB5#8, .or_l), (0xB6#8, .or_indHL), (0xB7#8, .or_a),
   (0xE6#8, .and_n), (0xEE#8, .xor_n), (0xF6#8, .or_n)]

/-- The annex rows of the first table (47 R230): 31 opcode bytes. -/
def annexRows : List (Byte × Instr) :=
  annexRows0 ++ annexRows1

/-- Part 0 of `annexCbRows`. -/
def annexCbRows0 : List (Byte × Instr) :=
  [(0x00#8, .rlc_b), (0x01#8, .rlc_c), (0x02#8, .rlc_d), (0x03#8, .rlc_e),
   (0x04#8, .rlc_h), (0x05#8, .rlc_l), (0x06#8, .rlc_indHL), (0x07#8, .rlc_a),
   (0x08#8, .rrc_b), (0x09#8, .rrc_c), (0x0A#8, .rrc_d), (0x0B#8, .rrc_e),
   (0x0C#8, .rrc_h), (0x0D#8, .rrc_l), (0x0E#8, .rrc_indHL), (0x0F#8, .rrc_a)]

/-- Part 1 of `annexCbRows`. -/
def annexCbRows1 : List (Byte × Instr) :=
  [(0x10#8, .rl_b), (0x11#8, .rl_c), (0x12#8, .rl_d), (0x13#8, .rl_e),
   (0x14#8, .rl_h), (0x15#8, .rl_l), (0x16#8, .rl_indHL), (0x17#8, .rl_a),
   (0x18#8, .rr_b), (0x19#8, .rr_c), (0x1A#8, .rr_d), (0x1B#8, .rr_e),
   (0x1C#8, .rr_h), (0x1D#8, .rr_l), (0x1E#8, .rr_indHL), (0x1F#8, .rr_a)]

/-- Part 2 of `annexCbRows`. -/
def annexCbRows2 : List (Byte × Instr) :=
  [(0x20#8, .sla_b), (0x21#8, .sla_c), (0x22#8, .sla_d), (0x23#8, .sla_e),
   (0x24#8, .sla_h), (0x25#8, .sla_l), (0x26#8, .sla_indHL), (0x27#8, .sla_a),
   (0x28#8, .sra_b), (0x29#8, .sra_c), (0x2A#8, .sra_d), (0x2B#8, .sra_e),
   (0x2C#8, .sra_h), (0x2D#8, .sra_l), (0x2E#8, .sra_indHL), (0x2F#8, .sra_a)]

/-- Part 3 of `annexCbRows`. -/
def annexCbRows3 : List (Byte × Instr) :=
  [(0x38#8, .srl_b), (0x39#8, .srl_c), (0x3A#8, .srl_d), (0x3B#8, .srl_e),
   (0x3C#8, .srl_h), (0x3D#8, .srl_l), (0x3E#8, .srl_indHL), (0x3F#8, .srl_a)]

/-- The annex rows of the second table (47 R250): 56 opcode bytes. -/
def annexCbRows : List (Byte × Instr) :=
  annexCbRows0 ++ annexCbRows1 ++ annexCbRows2 ++ annexCbRows3

/-- The entry of a slot, `none` for an empty one. -/
def slot : List (Byte × Instr) → Byte → Option Instr
  | [], _ => none
  | (o, i) :: rows, x => if x = o then some i else slot rows x

/-- The spec's tables for a value of `ADMIT_ANNEX` (00 R5, 30 R87, R88, 47 R250). -/
def DecodeTable.standard (admitAnnex : Bool) : DecodeTable where
  unprefixed x := slot (if admitAnnex then normativeRows ++ annexRows else normativeRows) x
  cb x := slot (if admitAnnex then annexCbRows else []) x

/-- The tables the model runs with: the spec's default assignment of bytes (DESIGN CHOICE, unsafe: log 1) with the annex
admitted (DESIGN CHOICE, unsafe: log 2). -/
def tableInForce : DecodeTable := DecodeTable.standard true

/-- `Decode(opcode, prefixed)` (30 R83): `none` is an empty slot. -/
def DecodeTable.decode (T : DecodeTable) (opcode : Byte) (prefixed : Bool) : Option Instr :=
  if prefixed then T.cb opcode else T.unprefixed opcode

/-- The table invariant (30 R84): within a table no instruction stands in two slots. -/
def DecodeTable.Legal (T : DecodeTable) : Prop :=
  ∀ (p : Bool) (x y : Byte) (i j : Instr), T.decode x p = some i → T.decode y p = some j →
    i.variant = j.variant → x = y

/-- The Instruction values of the non-empty slots of one table, in slot order. -/
def DecodeTable.entries (T : DecodeTable) (prefixed : Bool) : List Variant :=
  (List.range 256).filterMap fun n => (T.decode (BitVec.ofNat 8 n) prefixed).map Instr.variant

/-- The check of the table invariant when a table is built (30 R84, 60 R285): no Instruction value stands twice. -/
def DecodeTable.legal (T : DecodeTable) : Bool :=
  decide (T.entries false).Nodup && decide (T.entries true).Nodup

/-- The spec's tables pass the check (30 R84: "The table of rule R87 satisfies it", and so do the annex rows). -/
theorem DecodeTable.standard_legal (admitAnnex : Bool) : (DecodeTable.standard admitAnnex).legal = true := by
  cases admitAnnex <;> decide +kernel

/-- Why a list of bytes is no instruction. -/
inductive Reject where
  /-- The slot is empty (30 R90). -/
  | emptySlot (opcode : Byte) (prefixed : Bool)
  /-- The list ends inside the instruction (memory never does: it wraps, 30 R80). -/
  | truncated
  deriving DecidableEq, Repr

/-- The rest of decoding once the opcode is known: the operand bytes follow (30 R80). -/
def decodeOperand (T : DecodeTable) (opcode : Byte) (prefixed : Bool) (rest : List Byte) :
    Except Reject (Code × List Byte) :=
  match T.decode opcode prefixed with
  | none => .error (.emptySlot opcode prefixed)
  | some i =>
    if i.operandWidth ≤ rest.length then
      .ok ({ instr := i, operand := rest.take i.operandWidth }, rest.drop i.operandWidth)
    else .error .truncated

/-- Decoding of a list of bytes: the instruction that stands at its front, and the bytes after it (30 R82, R91). -/
def decodeBytes (T : DecodeTable) : List Byte → Except Reject (Code × List Byte)
  | [] => .error .truncated
  | b0 :: rest =>
    if b0 = 0xCB#8 then
      match rest with
      | [] => .error .truncated
      | b1 :: rest' => decodeOperand T b1 true rest'
    else decodeOperand T b0 false rest

/-- The 8-bit operand code `r[code]` (30 R86). -/
def regCode : Reg8 → Byte
  | .b => 0
  | .c => 1
  | .d => 2
  | .e => 3
  | .h => 4
  | .l => 5
  | .a => 7

/-- The operand code of a rotate or shift operand (30 R86): 6 is (HL). -/
def tgtCode : Tgt8 → Byte
  | .reg r => regCode r
  | .indHL => 6

/-- The opcode of an ALU instruction: `10 yyy zzz` with a register or (HL), `11 yyy 110` with an immediate (30 R87). -/
def aluOpcode (y : Byte) : Src8 → Byte
  | .reg r => 0x80#8 + 8 * y + regCode r
  | .indHL => 0x80#8 + 8 * y + 6
  | .imm => 0xC0#8 + 8 * y + 6

/-- `rp[code]` for ADD HL (30 R86). -/
def addPairCode : AddPair → Byte
  | .bc => 0
  | .de => 1
  | .hl => 2

/-- `rp[code]` for LD rr,nn (30 R86). -/
def loadPairCode : LoadPair → Byte
  | .bc => 0
  | .de => 1
  | .hl => 2
  | .sp => 3

/-- `rp2[code]` (30 R86). -/
def stackPairCode : Pair → Byte
  | .bc => 0
  | .de => 1
  | .hl => 2
  | .af => 3

/-- `cc[code]` (30 R86). -/
def condCode : Cond → Byte
  | .nz => 0
  | .z => 1
  | .nc => 2
  | .c => 3

/-- The opcode byte of a variant: the patterns of 30 R87 and, after 0xCB, of 47 R250. -/
def Variant.opcode : Variant → Byte
  | .add s => aluOpcode 0 s
  | .adc s => aluOpcode 1 s
  | .sub s => aluOpcode 2 s
  | .and s => aluOpcode 4 s
  | .xor s => aluOpcode 5 s
  | .or s => aluOpcode 6 s
  | .addHL p => 0b00001001#8 + 16 * addPairCode p
  | .ldRegReg dst src => 0b01000000#8 + 8 * regCode dst + regCode src
  | .ldRegImm r => 0b00000110#8 + 8 * regCode r
  | .ldRegIndHL r => 0b01000110#8 + 8 * regCode r
  | .ldIndHLReg r => 0b01110000#8 + regCode r
  | .ldIndHLImm => 0b00110110#8
  | .ldAIndBC => 0b00001010#8
  | .ldAIndDE => 0b00011010#8
  | .ldIndBCA => 0b00000010#8
  | .ldIndDEA => 0b00010010#8
  | .ldAIndNN => 0b11111010#8
  | .ldIndNNA => 0b11101010#8
  | .ldhAIndC => 0b11110010#8
  | .ldhIndCA => 0b11100010#8
  | .ldhAIndN => 0b11110000#8
  | .ldhIndNA => 0b11100000#8
  | .ldAIndHLInc => 0b00101010#8
  | .ldAIndHLDec => 0b00111010#8
  | .ldIndHLIncA => 0b00100010#8
  | .ldIndHLDecA => 0b00110010#8
  | .ldPairImm p => 0b00000001#8 + 16 * loadPairCode p
  | .ldIndNNSP => 0b00001000#8
  | .ldSPHL => 0b11111001#8
  | .push p => 0b11000101#8 + 16 * stackPairCode p
  | .pop p => 0b11000001#8 + 16 * stackPairCode p
  | .jp => 0b11000011#8
  | .jpCond cc => 0b11000010#8 + 8 * condCode cc
  | .rlca => 0b00000111#8
  | .rrca => 0b00001111#8
  | .rla => 0b00010111#8
  | .rra => 0b00011111#8
  | .rlc t => tgtCode t
  | .rrc t => 8 * 1 + tgtCode t
  | .rl t => 8 * 2 + tgtCode t
  | .rr t => 8 * 3 + tgtCode t
  | .sla t => 8 * 4 + tgtCode t
  | .sra t => 8 * 5 + tgtCode t
  | .srl t => 8 * 7 + tgtCode t

/-- The opcode byte of an instruction. -/
def Instr.opcode (i : Instr) : Byte := i.variant.opcode

/-- The bytes that select an instruction: its opcode, after 0xCB when it is prefixed (30 R80). -/
def Instr.opcodeBytes (i : Instr) : List Byte := if i.prefixed then [0xCB#8, i.opcode] else [i.opcode]

/-- The encoder: the opcode bytes, then the operand bytes (30 R80, R81). -/
def encode (c : Code) : List Byte := c.instr.opcodeBytes ++ c.operand

/-- The bytes of a number numbered as the opcode table numbers an instruction's bits: the first byte is bits 7 to 0.
Three bytes, the longest instruction; bits from `nbits` up are 0. -/
def tableBytes (nbits w : Nat) : List Byte :=
  let v := w % 2 ^ nbits
  [BitVec.ofNat 8 v, BitVec.ofNat 8 (v / 256), BitVec.ofNat 8 (v / 65536)]

/-- The instruction the decoder reads from an instruction whose bits are `w` (the host's question, log 11). -/
def decodeTableWord (nbits w : Nat) : Option Instr :=
  match decodeBytes tableInForce (tableBytes nbits w) with
  | .ok (c, _) => some c.instr
  | .error _ => none

end Sys2Proof
end

