-- ==== Sys2Proof/Machine/Params.lean ====
section
/-! DEFINITION. The open parameters of spec 00 R5 that a step depends on, as the argument of the step. ADMIT_ANNEX is part
of the tables; INIT_MEM is the memory of the state a run starts from, and the run length is the number of steps. -/

namespace Sys2Proof.Machine

/-- A legal choice of DECODE_TABLE (with ADMIT_ANNEX in it) and of ADD_HL_ZERO_MODE. -/
structure Params where
  /-- DECODE_TABLE. -/
  tables : DecodeTable
  /-- A table that violates the invariant is no parameter value: it is refused at construction (30 R84, 93 U4). -/
  legal : tables.legal = true
  /-- ADD_HL_ZERO_MODE. -/
  addHlZeroMode : ZeroMode

/-- Construction from supplied tables, refused when they violate the invariant (60 R285). -/
def Params.make (T : DecodeTable) (mode : ZeroMode) : Option Params :=
  if h : T.legal = true then some { tables := T, legal := h, addHlZeroMode := mode } else none

/-- The spec's tables, under a value of ADMIT_ANNEX and one of ADD_HL_ZERO_MODE. -/
def Params.standard (admitAnnex : Bool) (mode : ZeroMode) : Params where
  tables := DecodeTable.standard admitAnnex
  legal := DecodeTable.standard_legal admitAnnex
  addHlZeroMode := mode

/-- The parameter values of the spec's own defaults (00 R5). -/
def paramsDefault : Params := Params.standard Config.admitAnnexDefault Config.addHlZeroModeDefault

/-- The parameter values the model's step runs with (DESIGN CHOICE: logs 1, 2, 3). -/
def paramsInForce : Params where
  tables := tableInForce
  legal := DecodeTable.standard_legal true
  addHlZeroMode := addHlZeroMode

end Sys2Proof.Machine
end

