-- ==== Sys2Proof/Machine/Cycle.lean ====
section
/-! DEFINITION. One step of the engine (spec 40 R110 to R113) and runs of steps, under values of the parameters of 00 R5. -/

namespace Sys2Proof.Machine

/-- The handler of an instruction under a value of ADD_HL_ZERO_MODE: only ADD HL,rr depends on it (42 R164); every other
instruction is `exec`, and so are these under the mode in force. -/
def execUnder (mode : ZeroMode) (i : Instr) (s : State) : Result :=
  match i.variant with
  | .addHL p => addHl mode p s
  | _ => exec i s

/-- One step under the parameters `P`: fetch (40 R111), decode (R112), execute (R113). An empty slot takes the exception
on the state before the step; a state with the exception latched is stepped no further (60 R283; log 4). -/
def stepWith (P : Params) (s : State) : Result :=
  match s.fault with
  | some r => .fault r
  | none =>
    let f := fetch s
    match P.tables.decode f.opcode f.prefixed with
    | none => .next (takeUnimplemented s f.opcode f.prefixed)
    | some i => execUnder P.addHlZeroMode i (s.setPc f.pc)

/-- Up to `k` steps under the parameters `P`: a run whose length the driver chooses (40 R122). -/
def runWith (P : Params) : Nat → State → Result
  | 0, s => .next s
  | k + 1, s =>
    match stepWith P s with
    | .next t => runWith P k t
    | .fault r => .fault r
    | .refused r => .refused r

end Sys2Proof.Machine
end

