-- ==== Sys2Proof/Machine/Step.lean ====
section
/-! DEFINITION. The machine's step (spec 40 R110) with the parameters in force, and the host's way to place an instruction
where the next fetch reads it. -/

namespace Sys2Proof.Machine

/-- One step of the engine (40 R110). -/
def step (s : State) : Host.Outcome State Fault Refusal := stepWith paramsInForce s

/-- `s` with the instruction whose bits are `w` stored at pc, so that the next step fetches and runs it: what a host does
when it loads a program (70 R312). A latched fault is cleared too, since the engine would take no step (60 R283; log 7). -/
def State.withFetchWord (s : State) (nbits w : Nat) : State :=
  { s.storeBytes s.pc (tableBytes nbits w) with fault := none }

end Sys2Proof.Machine
end

