-- ==== Sys2Proof/Machine/Port.lean ====
section
/-! DEFINITION. The host's access port (spec 70 R316), reset as an event (70 R310), and runs in which the host acts
between steps (20 R65, 40 R122). A read by the host is one of the access functions of Ops.lean. -/

namespace Sys2Proof.Machine

/-- What the host may do to the state between two steps (70 R316, R310). It has no move that clears `fault` but reset
(60 R287). -/
inductive HostMove where
  | setReg (r : Reg8) (v : Byte)
  | setPair (p : Pair) (w : Word)
  | setFlags (f : Flags)
  | setFlagByte (v : Byte)
  | setPc (w : Word)
  | setSp (w : Word)
  | writeByte (a : Word) (v : Byte)
  | writeWord (a : Word) (w : Word)
  | loadImage (a : Word) (bytes : List Byte)
  | reset
  deriving DecidableEq, Repr

/-- The state after a host move. -/
def State.hostMove (s : State) : HostMove → State
  | .setReg r v => s.setReg r v
  | .setPair p w => s.setPair p w
  | .setFlags f => s.setFlags f
  | .setFlagByte v => s.setFlags (Flags.ofByte v)
  | .setPc w => s.setPc w
  | .setSp w => s.setSp w
  | .writeByte a v => s.writeByte a v
  | .writeWord a w => s.writeWord a w
  | .loadImage a bytes => s.storeBytes a bytes
  | .reset => State.reset

/-- What happens at the boundary of the block: the driver steps, or the host acts (70 R315, R316). -/
inductive Event where
  | step
  | host (m : HostMove)
  deriving DecidableEq, Repr

/-- One event. The step never contains a host move: the host acts between steps only (20 R65). -/
def event (P : Params) (s : State) : Event → Result
  | .step => stepWith P s
  | .host m => .next (s.hostMove m)

/-- A sequence of events, stopped by the first step that is not taken. -/
def runEvents (P : Params) : List Event → State → Result
  | [], s => .next s
  | e :: es, s =>
    match event P s e with
    | .next t => runEvents P es t
    | .fault r => .fault r
    | .refused r => .refused r

end Sys2Proof.Machine
end

