-- ==== Sys2Proof/Safety.lean ====
section
/-! DEFINITION. The terms the statements use: the invariant, the frame predicates, and the spec's tables of what each
instruction writes (10 R34, R35, 20 R57). -/

namespace Sys2Proof.Machine

/-- No fault is latched: the run has not gone wrong (40 R122, spec decision D11). -/
def State.running (s : State) : Bool := s.fault == none

/-- A latched fault names the bytes pc addresses, and their slot is empty (60 R281, R282). -/
def State.FaultJustified (T : DecodeTable) (s : State) : Prop :=
  ∀ (opcode : Byte) (p : Bool), s.fault = some (.unimplementedOpcode opcode p) →
    (fetch s).opcode = opcode ∧ (fetch s).prefixed = p ∧ T.decode opcode p = none

/-- The invariant of the machine under tables `T`: memory is in canonical form, and a latched fault is justified. -/
def State.Inv (T : DecodeTable) (s : State) : Prop := s.mem.wf = true ∧ s.FaultJustified T

/-- Every 8-bit register outside `rs` is unchanged. -/
def regsKept (rs : List Reg8) (s t : State) : Prop := ∀ r : Reg8, r ∉ rs → t.reg r = s.reg r

/-- Every byte of memory outside the addresses `stored` reads as before. -/
def memKept (stored : List Word) (s t : State) : Prop := ∀ a : Word, a ∉ stored → t.readByte a = s.readByte a

/-- The encoding an instruction rule gives: the opcode byte selects the instruction in the spec's tables (under both
values of `ADMIT_ANNEX`, if it is of the normative set), the encoder writes it (after 0xCB when prefixed), and so many
operand bytes follow. -/
def encodedAs (i : Instr) (prefixed : Bool) (opcode : Byte) (operandBytes : Nat) : Prop :=
  (∀ annex : Bool, i.admitted annex = true → (DecodeTable.standard annex).decode opcode prefixed = some i) ∧
    i.opcodeBytes = (if prefixed then [0xCB#8, opcode] else [opcode]) ∧ i.operandWidth = operandBytes

/-- The cells of a pair view (10 R26, R27). -/
def pairCells : Pair → List Reg8
  | .bc => [.b, .c]
  | .de => [.d, .e]
  | .hl => [.h, .l]
  | .af => [.a]

/-- The 8-bit registers an instruction writes (10 R34; for the annex 47). -/
def writtenRegs : Variant → List Reg8
  | .add _ | .adc _ | .sub _ | .and _ | .xor _ | .or _ => [.a]
  | .rlca | .rrca | .rla | .rra => [.a]
  | .addHL _ => [.h, .l]
  | .ldRegReg dst _ => [dst]
  | .ldRegImm r => [r]
  | .ldRegIndHL r => [r]
  | .ldAIndBC | .ldAIndDE | .ldAIndNN | .ldhAIndC | .ldhAIndN => [.a]
  | .ldAIndHLInc | .ldAIndHLDec => [.a, .h, .l]
  | .ldIndHLIncA | .ldIndHLDecA => [.h, .l]
  | .ldPairImm .bc => [.b, .c]
  | .ldPairImm .de => [.d, .e]
  | .ldPairImm .hl => [.h, .l]
  | .pop p => pairCells p
  | .rlc (.reg r) | .rrc (.reg r) | .rl (.reg r) | .rr (.reg r) | .sla (.reg r) | .sra (.reg r) | .srl (.reg r) => [r]
  | .rlc .indHL | .rrc .indHL | .rl .indHL | .rr .indHL | .sla .indHL | .sra .indHL | .srl .indHL => []
  | .ldPairImm .sp | .ldIndHLReg _ | .ldIndHLImm | .ldIndBCA | .ldIndDEA | .ldIndNNA | .ldhIndCA | .ldhIndNA
  | .ldIndNNSP | .ldSPHL | .push _ | .jp | .jpCond _ => []

/-- A word as it lies in memory: the low byte at the address, the high byte at the next, which wraps (20 R54). -/
def wordCells (a w : Word) : List (Word × Byte) := [(a, loByte w), (a + 1#16, hiByte w)]

/-- The byte a CB-prefixed rotate or shift of (HL) stores (47 R250, R251). -/
def shiftCell (op : ShiftOp) (s : State) : List (Word × Byte) :=
  [(s.pair .hl, (shift op (s.readByte (s.pair .hl)) s.f.c).res)]

/-- The bytes an instruction stores, each with its address (20 R57, 40 R116), computed in the state its handler starts
from with the functions its meaning uses. -/
def storedBytes (s : State) : Variant → List (Word × Byte)
  | .ldIndHLReg r => [((effAddr .indHL s).1, s.reg r)]
  | .ldIndHLImm => [(s.pair .hl, (imm8 s).1)]
  | .ldIndBCA => [((effAddr .indBC s).1, s.reg .a)]
  | .ldIndDEA => [((effAddr .indDE s).1, s.reg .a)]
  | .ldIndNNA => [((effAddr .absolute s).1, s.reg .a)]
  | .ldhIndCA => [((effAddr .highC s).1, s.reg .a)]
  | .ldhIndNA => [((effAddr .highN s).1, s.reg .a)]
  | .ldIndHLIncA => [((effAddr .hlInc s).1, s.reg .a)]
  | .ldIndHLDecA => [((effAddr .hlDec s).1, s.reg .a)]
  | .ldIndNNSP => wordCells (imm16 s).1 s.sp
  | .push p => wordCells (s.sp - 2#16) (s.pair p)
  | .rlc .indHL => shiftCell .rlc s
  | .rrc .indHL => shiftCell .rrc s
  | .rl .indHL => shiftCell .rl s
  | .rr .indHL => shiftCell .rr s
  | .sla .indHL => shiftCell .sla s
  | .sra .indHL => shiftCell .sra s
  | .srl .indHL => shiftCell .srl s
  | .rlc (.reg _) | .rrc (.reg _) | .rl (.reg _) | .rr (.reg _) | .sla (.reg _) | .sra (.reg _) | .srl (.reg _) => []
  | .add _ | .adc _ | .sub _ | .and _ | .xor _ | .or _ | .rlca | .rrca | .rla | .rra | .addHL _ | .ldRegReg _ _
  | .ldRegImm _ | .ldRegIndHL _ | .ldAIndBC | .ldAIndDE | .ldAIndNN | .ldhAIndC | .ldhAIndN | .ldAIndHLInc
  | .ldAIndHLDec | .ldPairImm _ | .ldSPHL | .pop _ | .jp | .jpCond _ => []

/-- The addresses of the bytes an instruction stores. -/
def storedAt (s : State) (v : Variant) : List Word := (storedBytes s v).map Prod.fst

/-- The instructions that write flags (10 R35; for the annex 47 R231, R241 to R244, R251). -/
def writesFlags : Variant → Bool
  | .add _ | .adc _ | .sub _ | .and _ | .xor _ | .or _ | .addHL _ | .rlca | .rrca | .rla | .rra
  | .rlc _ | .rrc _ | .rl _ | .rr _ | .sla _ | .sra _ | .srl _ => true
  | .pop .af => true
  | .pop .bc | .pop .de | .pop .hl => false
  | .ldRegReg _ _ | .ldRegImm _ | .ldRegIndHL _ | .ldIndHLReg _ | .ldIndHLImm | .ldAIndBC | .ldAIndDE | .ldIndBCA
  | .ldIndDEA | .ldAIndNN | .ldIndNNA | .ldhAIndC | .ldhIndCA | .ldhAIndN | .ldhIndNA | .ldAIndHLInc | .ldAIndHLDec
  | .ldIndHLIncA | .ldIndHLDecA | .ldPairImm _ | .ldIndNNSP | .ldSPHL | .push _ | .jp | .jpCond _ => false

/-- The instructions that write sp (10 R34). -/
def writesSp : Variant → Bool
  | .ldPairImm .sp | .ldSPHL | .push _ | .pop _ => true
  | .ldPairImm .bc | .ldPairImm .de | .ldPairImm .hl => false
  | .add _ | .adc _ | .sub _ | .and _ | .xor _ | .or _ | .addHL _ | .rlca | .rrca | .rla | .rra
  | .rlc _ | .rrc _ | .rl _ | .rr _ | .sla _ | .sra _ | .srl _
  | .ldRegReg _ _ | .ldRegImm _ | .ldRegIndHL _ | .ldIndHLReg _ | .ldIndHLImm | .ldAIndBC | .ldAIndDE | .ldIndBCA
  | .ldIndDEA | .ldAIndNN | .ldIndNNA | .ldhAIndC | .ldhIndCA | .ldhAIndN | .ldhIndNA | .ldAIndHLInc | .ldAIndHLDec
  | .ldIndHLIncA | .ldIndHLDecA | .ldIndNNSP | .jp | .jpCond _ => false

/-- The condition under which an instruction jumps (46 R220 to R225). -/
def takesJump (f : Flags) : Variant → Bool
  | .jp => true
  | .jpCond .nz => !f.z
  | .jpCond .z => f.z
  | .jpCond .nc => !f.c
  | .jpCond .c => f.c
  | .add _ | .adc _ | .sub _ | .and _ | .xor _ | .or _ | .addHL _ | .rlca | .rrca | .rla | .rra
  | .rlc _ | .rrc _ | .rl _ | .rr _ | .sla _ | .sra _ | .srl _
  | .ldRegReg _ _ | .ldRegImm _ | .ldRegIndHL _ | .ldIndHLReg _ | .ldIndHLImm | .ldAIndBC | .ldAIndDE | .ldIndBCA
  | .ldIndDEA | .ldAIndNN | .ldIndNNA | .ldhAIndC | .ldhIndCA | .ldhAIndN | .ldhIndNA | .ldAIndHLInc | .ldAIndHLDec
  | .ldIndHLIncA | .ldIndHLDecA | .ldPairImm _ | .ldIndNNSP | .ldSPHL | .push _ | .pop _ => false

end Sys2Proof.Machine
end

