-- ==== Sys2Proof/Certificates/Slice0/Obligations.lean ====
section
/-! DEFINITION. The statements for the provers. Each states a rule of the spec about exec, the step, the tables or the
state, over all states. A statement about exec starts, as 40 R113 does, from the state in which pc addresses the byte
after the opcode. -/

namespace Sys2Proof.Claims

open Sys2Proof.Machine

/-- ADD and ADC: A becomes A + y + cin modulo 256, the flags are those of 41 R140, pc ends at `pc`, and nothing else
changes (40 R121). -/
def addsToA (i : Instr) (s : State) (y : Byte) (cin : Nat) (pc : Word) : Prop :=
  ∃ t, exec i s = .next t ∧
    (t.reg .a).toNat = ((s.reg .a).toNat + y.toNat + cin) % 256 ∧
    t.f.z = decide (((s.reg .a).toNat + y.toNat + cin) % 256 = 0) ∧ t.f.n = false ∧
    t.f.h = decide (0x10 ≤ (s.reg .a).toNat % 16 + y.toNat % 16 + cin) ∧
    t.f.c = decide (0x100 ≤ (s.reg .a).toNat + y.toNat + cin) ∧
    t.pc = pc ∧ t.sp = s.sp ∧ t.fault = s.fault ∧ regsKept [.a] s t ∧ memKept [] s t

/-- SUB: A becomes A - y modulo 256, the flags are those of 41 R141, and nothing else but pc changes. -/
def subsFromA (i : Instr) (s : State) (y : Byte) (pc : Word) : Prop :=
  ∃ t, exec i s = .next t ∧
    (t.reg .a).toNat = ((s.reg .a).toNat + 256 - y.toNat) % 256 ∧
    t.f.z = decide ((s.reg .a).toNat = y.toNat) ∧ t.f.n = true ∧
    t.f.h = decide ((s.reg .a).toNat % 16 < y.toNat % 16) ∧
    t.f.c = decide ((s.reg .a).toNat < y.toNat) ∧
    t.pc = pc ∧ t.sp = s.sp ∧ t.fault = s.fault ∧ regsKept [.a] s t ∧ memKept [] s t

/-- AND, XOR, OR: A becomes `op A y` bit by bit, z from it, n and c clear, h as given (47 R231), nothing else but pc. -/
def logicsA (op : Bool → Bool → Bool) (h : Bool) (i : Instr) (s : State) (y : Byte) (pc : Word) : Prop :=
  ∃ t, exec i s = .next t ∧
    (∀ k, k < 8 → (t.reg .a).getLsbD k = op ((s.reg .a).getLsbD k) (y.getLsbD k)) ∧
    t.f = { z := decide ((t.reg .a).toNat = 0), n := false, h := h, c := false } ∧
    t.pc = pc ∧ t.sp = s.sp ∧ t.fault = s.fault ∧ regsKept [.a] s t ∧ memKept [] s t

/-- `Shift` of 47 R251 in integer terms: the result byte and the bit moved into the carry. -/
def shiftNat (op : ShiftOp) (v : Nat) (cin : Bool) : Nat × Bool :=
  match op with
  | .rlc => (2 * v % 256 + v / 128, decide (128 ≤ v))
  | .rrc => (v / 2 + 128 * (v % 2), decide (v % 2 = 1))
  | .rl => (2 * v % 256 + cin.toNat, decide (128 ≤ v))
  | .rr => (v / 2 + 128 * cin.toNat, decide (v % 2 = 1))
  | .sla => (2 * v % 256, decide (128 ≤ v))
  | .sra => (v / 2 + 128 * (v / 128), decide (v % 2 = 1))
  | .srl => (v / 2, decide (v % 2 = 1))

/-- An instruction that changes one register and pc, and nothing else: `r` becomes `v`. -/
def loadsReg (i : Instr) (s : State) (r : Reg8) (v : Byte) (pc : Word) : Prop :=
  ∃ t, exec i s = .next t ∧ t.reg r = v ∧
    t.f = s.f ∧ t.pc = pc ∧ t.sp = s.sp ∧ t.fault = s.fault ∧ regsKept [r] s t ∧ memKept [] s t

/-- An instruction that stores one byte: `v` at `a`, every other byte, register and flag kept. -/
def storesByte (i : Instr) (s : State) (a : Word) (v : Byte) (pc : Word) : Prop :=
  ∃ t, exec i s = .next t ∧ (s.mem.wf = true → t.readByte a = v) ∧ memKept [a] s t ∧
    t.f = s.f ∧ t.pc = pc ∧ t.sp = s.sp ∧ t.fault = s.fault ∧ regsKept [] s t

end Sys2Proof.Claims

open Sys2Proof Sys2Proof.Machine Sys2Proof.Claims

/-- Sanity: a few words of 30 R87 and 47 R250, in binary as the patterns give them. It reads them by the tables in
force, logs 1 and 2. -/
def Obligations.DecodesWordsOfTheSpec : Prop :=
  (decodeBytes tableInForce [0b10000001#8] = .ok (⟨.add_a_c, []⟩, [])) ∧
  (decodeBytes tableInForce [0b00011001#8] = .ok (⟨.add_hl_de, []⟩, [])) ∧
  (decodeBytes tableInForce [0b01010111#8] = .ok (⟨.ld_d_a, []⟩, [])) ∧
  (decodeBytes tableInForce [0b00110110#8, 0x5A#8] = .ok (⟨.ld_indHL_n, [0x5A#8]⟩, [])) ∧
  (decodeBytes tableInForce [0b00110001#8, 0xFE#8, 0xFF#8] = .ok (⟨.ld_sp_nn, [0xFE#8, 0xFF#8]⟩, [])) ∧
  (decodeBytes tableInForce [0b11110101#8, 0x00#8] = .ok (⟨.push_af, []⟩, [0x00#8])) ∧
  (decodeBytes tableInForce [0b11010010#8, 0x56#8, 0x78#8] = .ok (⟨.jp_nc_nn, [0x56#8, 0x78#8]⟩, [])) ∧
  (decodeBytes tableInForce [0b10101110#8] = .ok (⟨.xor_indHL, []⟩, [])) ∧
  (decodeBytes tableInForce [0b00011111#8] = .ok (⟨.rra, []⟩, [])) ∧
  (decodeBytes tableInForce [0b11001011#8, 0b00101101#8] = .ok (⟨.sra_l, []⟩, [])) ∧
  (decodeBytes tableInForce [0b01110110#8] = .error (.emptySlot 0x76#8 false)) ∧
  (decodeBytes tableInForce [0b11001011#8, 0b00110111#8] = .error (.emptySlot 0x37#8 true))

/-- Both directions of the round trip at once: no bit of an encoding is dropped, and nothing else decodes to it. -/
def Obligations.DecodeAndEncodeAgree : Prop :=
  ∀ (annex : Bool) (bytes : List Byte) (c : Code) (rest : List Byte),
    decodeBytes (DecodeTable.standard annex) bytes = .ok (c, rest) ↔
      c.wf annex = true ∧ bytes = encode c ++ rest

/-- 30 R84 (and 60 R285), over the Instruction values of 30 R85: for the normative rows alone, with the annex rows,
and for supplied tables. -/
def Obligations.NoInstructionInTwoSlots : Prop :=
  (∀ annex : Bool, (DecodeTable.standard annex).Legal) ∧ (∀ P : Params, P.tables.Legal) ∧
  (∀ (T : DecodeTable) (mode : ZeroMode),
    (T.Legal → ∃ P, Params.make T mode = some P ∧ P.tables = T ∧ P.addHlZeroMode = mode) ∧
    (¬ T.Legal → Params.make T mode = none))

/-- 30 R88 and 47 R250. That the raising step answers a next state is the model's reading, log 4. -/
def Obligations.SecondTableSlots : Prop :=
  (∀ x : Byte, (DecodeTable.standard false).decode x true = none) ∧
  (∀ x : Byte, ((DecodeTable.standard true).decode x true).isSome =
    decide (x.toNat ≤ 0x2F ∨ (0x38 ≤ x.toNat ∧ x.toNat ≤ 0x3F))) ∧
  (∀ (mode : ZeroMode) (s : State), s.fault = none → s.readByte s.pc = 0xCB#8 →
    stepWith (Params.standard false mode) s =
      .next { s with fault := some (.unimplementedOpcode (s.readByte (s.pc + 1#16)) true) })

/-- The counts of 30 R87, R90 and 47 R230. -/
def Obligations.FirstTableHas134Instructions : Prop :=
  ((List.range 256).countP fun n => ((DecodeTable.standard false).decode (BitVec.ofNat 8 n) false).isSome) = 134 ∧
  ((List.range 256).countP fun n => ((DecodeTable.standard false).decode (BitVec.ofNat 8 n) false).isNone) = 122 ∧
  ((List.range 256).countP fun n => ((DecodeTable.standard true).decode (BitVec.ofNat 8 n) false).isSome) = 165 ∧
  (∀ annex : Bool, (DecodeTable.standard annex).decode 0xCB#8 false = none)

/-- 30 R91 on byte lists. -/
def Obligations.LengthFromTheFirstByte : Prop :=
  (∀ (annex : Bool) (b : Byte) (bs : List Byte) (c : Code) (rest : List Byte),
    decodeBytes (DecodeTable.standard annex) (b :: bs) = .ok (c, rest) →
      (b :: bs).length = c.instr.length + rest.length ∧ rest = (b :: bs).drop c.instr.length ∧
      (b = 0xCB#8 → c.instr.length = 2) ∧
      (b ≠ 0xCB#8 → (DecodeTable.standard annex).decode b false = some c.instr)) ∧
  (∀ (annex : Bool) (b : Byte) (bs : List Byte), b ≠ 0xCB#8 → (DecodeTable.standard annex).decode b false = none →
    decodeBytes (DecodeTable.standard annex) (b :: bs) = .error (.emptySlot b false)) ∧
  (∀ (annex : Bool) (x : Byte) (bs : List Byte), (DecodeTable.standard annex).decode x true = none →
    decodeBytes (DecodeTable.standard annex) (0xCB#8 :: x :: bs) = .error (.emptySlot x true))

/-- 40 R111 (and R113), for every choice of the parameters. Which of them the model's step runs with (logs 1, 2, 3)
the first clause does not rest on, and the second only names. -/
def Obligations.StepRunsTheDecodedInstruction : Prop :=
  (∀ (P : Params) (s : State) (i : Instr), s.fault = none →
    (s.readByte s.pc ≠ 0xCB#8 → P.tables.unprefixed (s.readByte s.pc) = some i →
      stepWith P s = execUnder P.addHlZeroMode i { s with pc := s.pc + 1#16 }) ∧
    (s.readByte s.pc = 0xCB#8 → P.tables.cb (s.readByte (s.pc + 1#16)) = some i →
      stepWith P s = execUnder P.addHlZeroMode i { s with pc := s.pc + 2#16 })) ∧
  (∀ (s : State) (i : Instr), s.fault = none →
    (s.readByte s.pc ≠ 0xCB#8 → paramsInForce.tables.unprefixed (s.readByte s.pc) = some i →
      step s = exec i { s with pc := s.pc + 1#16 }) ∧
    (s.readByte s.pc = 0xCB#8 → paramsInForce.tables.cb (s.readByte (s.pc + 1#16)) = some i →
      step s = exec i { s with pc := s.pc + 2#16 })) ∧
  (∀ s : State, step s = stepWith paramsInForce s)

/-- The step's own fetch and the decoder on byte lists are one reading of the encoding. Two clauses are about the
model's choices: that the step on an empty slot answers a next state with fault set is its reading (log 4), and
truncated, which never arises here, is its own reject (log 12). -/
def Obligations.StepAgreesWithTheByteDecoder : Prop :=
  ∀ (annex : Bool) (mode : ZeroMode) (s : State), s.fault = none →
    (∀ (c : Code) (rest : List Byte),
      decodeBytes (DecodeTable.standard annex) (s.loadBytes 3 s.pc) = .ok (c, rest) →
        c.wf annex = true ∧
        stepWith (Params.standard annex mode) s =
          execUnder mode c.instr { s with pc := s.pc + BitVec.ofNat 16 c.instr.opcodeBytes.length } ∧
        s.loadBytes c.instr.operandWidth (s.pc + BitVec.ofNat 16 c.instr.opcodeBytes.length) = c.operand) ∧
    (∀ (x : Byte) (p : Bool),
      decodeBytes (DecodeTable.standard annex) (s.loadBytes 3 s.pc) = .error (.emptySlot x p) →
        stepWith (Params.standard annex mode) s = .next { s with fault := some (.unimplementedOpcode x p) }) ∧
    decodeBytes (DecodeTable.standard annex) (s.loadBytes 3 s.pc) ≠ .error .truncated

/-- 40 R112 (and 60 R282, R283). That the step answers this state as a next state is the model's reading, log 4. -/
def Obligations.EmptySlotTakesTheException : Prop :=
  ∀ (P : Params) (s : State), s.fault = none →
    (s.readByte s.pc ≠ 0xCB#8 → P.tables.unprefixed (s.readByte s.pc) = none →
      stepWith P s = .next { s with fault := some (.unimplementedOpcode (s.readByte s.pc) false) }) ∧
    (s.readByte s.pc = 0xCB#8 → P.tables.cb (s.readByte (s.pc + 1#16)) = none →
      stepWith P s = .next { s with fault := some (.unimplementedOpcode (s.readByte (s.pc + 1#16)) true) })

/-- 60 R283. That the outcome is the host's `fault` is the model's reading, log 4. -/
def Obligations.FaultedEngineTakesNoStep : Prop :=
  ∀ (P : Params) (s : State) (r : Fault), s.fault = some r →
    stepWith P s = .fault r ∧ ∀ k : Nat, runWith P (k + 1) s = .fault r

/-- 60 R280: the only exception, and its one cause. That the raising step answers a next state with fault set is the
model's reading, log 4. -/
def Obligations.OnlyAnEmptySlotFaults : Prop :=
  ∀ (P : Params) (s t : State), stepWith P s = .next t →
    (∀ r, t.fault = some r →
      P.tables.decode (fetch s).opcode (fetch s).prefixed = none ∧
      r = .unimplementedOpcode (fetch s).opcode (fetch s).prefixed ∧ t = { s with fault := some r }) ∧
    (∀ i, P.tables.decode (fetch s).opcode (fetch s).prefixed = some i → t.fault = none)

/-- 40 R120: no handler raises an exception. What each next state is, the family statements say. -/
def Obligations.EveryHandlerCompletes : Prop :=
  (∀ (i : Instr) (s : State), ∃ t, exec i s = .next t ∧ t.fault = s.fault) ∧
  (∀ (mode : ZeroMode) (i : Instr) (s : State), ∃ t, execUnder mode i s = .next t ∧ t.fault = s.fault)

/-- 40 R110, 60 R295: Step is total, and there is no refusal inside the machine. R295 calls the step that finds an
empty slot the fault outcome; that it answers a next state, with fault set, is the model's reading, log 4. -/
def Obligations.StepIsTotal : Prop :=
  ∀ P : Params,
    (∀ s : State, s.fault = none → ∃ t, stepWith P s = .next t) ∧
    (∀ (s : State) (k : Nat) (r : Refusal), stepWith P s ≠ .refused r ∧ runWith P k s ≠ .refused r)

/-- The headline invariant, for every choice of the parameters. Canonical form is the model's own (log 6), and so is
the reading by which a step answers a next state with fault set (log 4). -/
def Obligations.StepKeepsTheInvariant : Prop :=
  (∀ (P : Params) (s t : State), s.Inv P.tables → stepWith P s = .next t → t.Inv P.tables) ∧
  (∀ s t : State, s.Inv paramsInForce.tables → step s = .next t → t.Inv paramsInForce.tables)

/-- The base case of StepKeepsTheInvariant; canonical form is the model's own (log 6). -/
def Obligations.ResetMeetsTheInvariant : Prop :=
  ∀ T : DecodeTable, State.reset.Inv T

/-- 70 R316 and R310, 60 R287. The first clause is about the model's own form of memory (log 6), and the list of moves
is its reading of the access port (log 8). -/
def Obligations.HostMovesKeepMemoryCanonical : Prop :=
  (∀ (s : State) (m : HostMove), s.mem.wf = true → (s.hostMove m).mem.wf = true) ∧
  (∀ (s : State) (m : HostMove), m ≠ .reset → (s.hostMove m).fault = s.fault) ∧
  (∀ s : State, s.hostMove .reset = State.reset) ∧
  (∀ (s : State) (w : Word), (s.hostMove (.setPair .af w)).pair .af = w &&& 0xFFF0#16) ∧
  (∀ (s : State) (v : Byte), (s.hostMove (.setFlagByte v)).f.toByte = v &&& 0xF0#8)

/-- 10 R36, every value of its table. -/
def Obligations.ResetState : Prop :=
  (∀ r : Reg8, State.reset.reg r = 0x00#8) ∧
  State.reset.f.z = false ∧ State.reset.f.n = false ∧ State.reset.f.h = false ∧ State.reset.f.c = false ∧
  State.reset.pc = 0x0000#16 ∧ State.reset.sp = 0x0000#16 ∧
  (∀ a : Word, State.reset.readByte a = 0x00#8) ∧ State.reset.fault = none

/-- 70 R311. That the step answers a next state with fault set is the model's reading, log 4; the second clause is
about the parameters in force, logs 1 to 3. -/
def Obligations.FirstStepFromBareResetFaults : Prop :=
  (∀ (annex : Bool) (mode : ZeroMode), stepWith (Params.standard annex mode) State.reset =
    .next { State.reset with fault := some (.unimplementedOpcode 0x00#8 false) }) ∧
  step State.reset = .next { State.reset with fault := some (.unimplementedOpcode 0x00#8 false) }

/-- 10 R23 and R24. -/
def Obligations.FlagByteLayoutAndRoundTrip : Prop :=
  (∀ f : Flags, f.toByte.toNat = 128 * f.z.toNat + 64 * f.n.toNat + 32 * f.h.toNat + 16 * f.c.toNat) ∧
  (∀ v : Byte, (Flags.ofByte v).z = v.getLsbD 7 ∧ (Flags.ofByte v).n = v.getLsbD 6 ∧
    (Flags.ofByte v).h = v.getLsbD 5 ∧ (Flags.ofByte v).c = v.getLsbD 4) ∧
  (∀ v : Byte, (Flags.ofByte v).toByte = v &&& 0xF0#8) ∧ (∀ f : Flags, Flags.ofByte f.toByte = f)

/-- 10 R25 to R27. -/
def Obligations.PairViews : Prop :=
  (∀ s : State,
    (s.pair .bc).toNat = (s.reg .b).toNat * 256 + (s.reg .c).toNat ∧
    (s.pair .de).toNat = (s.reg .d).toNat * 256 + (s.reg .e).toNat ∧
    (s.pair .hl).toNat = (s.reg .h).toNat * 256 + (s.reg .l).toNat ∧
    (s.pair .af).toNat = (s.reg .a).toNat * 256 + s.f.toByte.toNat ∧
    s.pair .af &&& 0x000F#16 = 0x0000#16) ∧
  (∀ (s : State) (w : Word),
    (s.setPair .bc w).pair .bc = w ∧ (s.setPair .de w).pair .de = w ∧ (s.setPair .hl w).pair .hl = w ∧
    (s.setPair .af w).pair .af = w &&& 0xFFF0#16 ∧ (s.setPair .af w).f = Flags.ofByte (w.setWidth 8)) ∧
  (∀ (s : State) (p : Pair) (w : Word), regsKept (pairCells p) s (s.setPair p w) ∧
    (p ≠ .af → (s.setPair p w).f = s.f) ∧ (s.setPair p w).pc = s.pc ∧ (s.setPair p w).sp = s.sp ∧
    (s.setPair p w).mem = s.mem ∧ (s.setPair p w).fault = s.fault)

/-- 20 R51 and R52 through the model's list of cells. Its canonical form, premise and conclusion here, is the model's
own (log 6), and an invariant (StepKeepsTheInvariant). -/
def Obligations.ByteWriteThenRead : Prop :=
  ∀ (s : State) (a : Word) (v : Byte),
    (s.mem.wf = true → (s.writeByte a v).readByte a = v ∧ (s.writeByte a v).mem.wf = true) ∧
    memKept [a] s (s.writeByte a v) ∧ regsKept [] s (s.writeByte a v) ∧ (s.writeByte a v).f = s.f ∧
    (s.writeByte a v).pc = s.pc ∧ (s.writeByte a v).sp = s.sp ∧ (s.writeByte a v).fault = s.fault

/-- 20 R53 and R54; addresses are 16-bit, so a = 0xFFFF wraps to 0x0000. The premise is the invariant
StepKeepsTheInvariant keeps (log 6). -/
def Obligations.WordWriteThenRead : Prop :=
  (∀ (s : State) (a : Word), (s.readWord a).toNat = (s.readByte (a + 1#16)).toNat * 256 + (s.readByte a).toNat) ∧
  (∀ (s : State) (a w : Word), s.mem.wf = true →
    (s.writeWord a w).readByte a = w.setWidth 8 ∧
    (s.writeWord a w).readByte (a + 1#16) = (w >>> 8).setWidth 8 ∧
    (s.writeWord a w).readWord a = w) ∧
  (∀ (s : State) (a w : Word), memKept [a, a + 1#16] s (s.writeWord a w))

/-- The representation adds nothing to the array of 10 R32. The canonical form is the model's own (log 6). -/
def Obligations.CanonicalMemoryIsUnique : Prop :=
  ∀ m m' : Memory, m.wf = true → m'.wf = true → (∀ a : Word, m.read a.toNat = m'.read a.toNat) → m = m'

/-- 10 R34, and for the annex the destinations of 47. -/
def Obligations.RegistersWrittenByEachInstruction : Prop :=
  ∀ (i : Instr) (s t : State), exec i s = .next t → regsKept (writtenRegs i.variant) s t

/-- 40 R119 and the table of 10 R35. -/
def Obligations.FlagsWrittenOnlyWhereNamed : Prop :=
  ∀ (i : Instr) (s t : State), writesFlags i.variant = false → exec i s = .next t → t.f = s.f

/-- 10 R29: the writers of sp. -/
def Obligations.SpWrittenOnlyByStackAndSpLoads : Prop :=
  ∀ (i : Instr) (s t : State), writesSp i.variant = false → exec i s = .next t → t.sp = s.sp

/-- The "writes" column of 20 R57, with the addresses of 40 R116. The canonical premise is the invariant of
StepKeepsTheInvariant (log 6). -/
def Obligations.MemoryWrittenOnlyWhereStored : Prop :=
  ∀ (i : Instr) (s t : State), exec i s = .next t → memKept (storedAt s i.variant) s t ∧
    (s.mem.wf = true → ∀ c ∈ storedBytes s i.variant, t.readByte c.1 = c.2)

/-- 40 R117 and R118. That a step on an empty slot answers a next state is the model's reading, log 4. -/
def Obligations.PcAfterAStep : Prop :=
  ∀ (annex : Bool) (mode : ZeroMode) (s t : State), stepWith (Params.standard annex mode) s = .next t →
    (∀ i, (DecodeTable.standard annex).decode (fetch s).opcode (fetch s).prefixed = some i →
      t.pc = if takesJump s.f i.variant then s.readWord (s.pc + 1#16) else s.pc + BitVec.ofNat 16 i.length) ∧
    ((DecodeTable.standard annex).decode (fetch s).opcode (fetch s).prefixed = none → t.pc = s.pc)

/-- 10 R28: "No instruction reads pc as data." -/
def Obligations.PcIsNeverReadAsData : Prop :=
  ∀ (i : Instr) (s : State) (pc : Word), s.loadBytes i.operandWidth pc = s.loadBytes i.operandWidth s.pc →
    ∃ t u, exec i s = .next t ∧ exec i { s with pc := pc } = .next u ∧
      (takesJump s.f i.variant = true → u = t) ∧
      (takesJump s.f i.variant = false → t.pc = s.pc + BitVec.ofNat 16 i.operandWidth ∧
        u = { t with pc := pc + BitVec.ofNat 16 i.operandWidth })

/-- 46 R222: the operand bytes are skipped and not read. -/
def Obligations.JumpNotTakenReadsNoOperand : Prop :=
  ∀ (s : State) (m : Memory),
    (s.f.z = true → ∃ t, exec .jp_nz_nn s = .next t ∧ exec .jp_nz_nn { s with mem := m } = .next { t with mem := m }) ∧
    (s.f.z = false → ∃ t, exec .jp_z_nn s = .next t ∧ exec .jp_z_nn { s with mem := m } = .next { t with mem := m }) ∧
    (s.f.c = true → ∃ t, exec .jp_nc_nn s = .next t ∧ exec .jp_nc_nn { s with mem := m } = .next { t with mem := m }) ∧
    (s.f.c = false → ∃ t, exec .jp_c_nn s = .next t ∧ exec .jp_c_nn { s with mem := m } = .next { t with mem := m })

/-- 41 R140, R142 to R144. -/
def Obligations.AddToAccumulator : Prop :=
  (∀ p ∈ ([(.add_a_b, 0x80#8, .b), (.add_a_c, 0x81#8, .c), (.add_a_d, 0x82#8, .d), (.add_a_e, 0x83#8, .e),
    (.add_a_h, 0x84#8, .h), (.add_a_l, 0x85#8, .l), (.add_a_a, 0x87#8, .a)] : List (Instr × Byte × Reg8)),
    encodedAs p.1 false p.2.1 0 ∧ ∀ s, addsToA p.1 s (s.reg p.2.2) 0 s.pc) ∧
  (encodedAs .add_a_indHL false 0x86#8 0 ∧
    ∀ s, addsToA .add_a_indHL s (s.readByte (s.pair .hl)) 0 s.pc) ∧
  (encodedAs .add_a_n false 0xC6#8 1 ∧
    ∀ s, addsToA .add_a_n s (s.readByte s.pc) 0 (s.pc + 1#16))

/-- 41 R140, R145 to R147, C3. -/
def Obligations.AdcToAccumulator : Prop :=
  (∀ p ∈ ([(.adc_a_b, 0x88#8, .b), (.adc_a_c, 0x89#8, .c), (.adc_a_d, 0x8A#8, .d), (.adc_a_e, 0x8B#8, .e),
    (.adc_a_h, 0x8C#8, .h), (.adc_a_l, 0x8D#8, .l), (.adc_a_a, 0x8F#8, .a)] : List (Instr × Byte × Reg8)),
    encodedAs p.1 false p.2.1 0 ∧ ∀ s, addsToA p.1 s (s.reg p.2.2) s.f.c.toNat s.pc) ∧
  (encodedAs .adc_a_indHL false 0x8E#8 0 ∧
    ∀ s, addsToA .adc_a_indHL s (s.readByte (s.pair .hl)) s.f.c.toNat s.pc) ∧
  (encodedAs .adc_a_n false 0xCE#8 1 ∧
    ∀ s, addsToA .adc_a_n s (s.readByte s.pc) s.f.c.toNat (s.pc + 1#16))

/-- 41 R141, R148 to R150. -/
def Obligations.SubFromAccumulator : Prop :=
  (∀ p ∈ ([(.sub_b, 0x90#8, .b), (.sub_c, 0x91#8, .c), (.sub_d, 0x92#8, .d), (.sub_e, 0x93#8, .e),
    (.sub_h, 0x94#8, .h), (.sub_l, 0x95#8, .l), (.sub_a, 0x97#8, .a)] : List (Instr × Byte × Reg8)),
    encodedAs p.1 false p.2.1 0 ∧ ∀ s, subsFromA p.1 s (s.reg p.2.2) s.pc) ∧
  (encodedAs .sub_indHL false 0x96#8 0 ∧
    ∀ s, subsFromA .sub_indHL s (s.readByte (s.pair .hl)) s.pc) ∧
  (encodedAs .sub_n false 0xD6#8 1 ∧
    ∀ s, subsFromA .sub_n s (s.readByte s.pc) (s.pc + 1#16))

/-- The telling difference of C3: what makes the three-addend reading not the two-addend one. -/
def Obligations.CarryInMattersForHalfCarry : Prop :=
  ∀ a b : Byte,
    (add8 a b true).res = (add8 a (b + 1#8) false).res ∧ (add8 a b true).f.z = (add8 a (b + 1#8) false).f.z ∧
    (add8 a b true).f.n = (add8 a (b + 1#8) false).f.n ∧
    ((add8 a b true).f.h ≠ (add8 a (b + 1#8) false).f.h ↔ b.toNat % 16 = 15) ∧
    ((add8 a b true).f.c ≠ (add8 a (b + 1#8) false).f.c ↔ b = 0xFF#8)

/-- 42 R160 to R164, under either mode; which mode is in force (log 3) the statement does not rest on. -/
def Obligations.AddToHl : Prop :=
  let ok (mode : ZeroMode) (p : Pair) (s : State) (r : Result) : Prop := ∃ t, r = .next t ∧
    (t.pair .hl).toNat = ((s.pair .hl).toNat + (s.pair p).toNat) % 65536 ∧
    t.f.z = (match mode with
      | .computed => decide (((s.pair .hl).toNat + (s.pair p).toNat) % 65536 = 0)
      | .unaffected => s.f.z) ∧
    t.f.n = false ∧
    t.f.h = decide (0x1000 ≤ (s.pair .hl).toNat % 4096 + (s.pair p).toNat % 4096) ∧
    t.f.c = decide (0x10000 ≤ (s.pair .hl).toNat + (s.pair p).toNat) ∧
    t.pc = s.pc ∧ t.sp = s.sp ∧ t.fault = s.fault ∧ regsKept [.h, .l] s t ∧ memKept [] s t
  (∀ p ∈ ([(.bc, .bc), (.de, .de), (.hl, .hl)] : List (AddPair × Pair)),
    ∀ (mode : ZeroMode) (s : State), ok mode p.2 s (addHl mode p.1 s)) ∧
  (∀ p ∈ ([(.add_hl_bc, 0x09#8, .bc), (.add_hl_de, 0x19#8, .de), (.add_hl_hl, 0x29#8, .hl)] :
      List (Instr × Byte × Pair)),
    encodedAs p.1 false p.2.1 0 ∧ (∀ (mode : ZeroMode) (s : State), ok mode p.2.2 s (execUnder mode p.1 s)) ∧
      ∀ s : State, ok addHlZeroMode p.2.2 s (exec p.1 s))

/-- 43 R170. -/
def Obligations.LoadRegisterFromRegister : Prop :=
  ∀ p ∈ ([(.ld_b_b, 0x40#8, .b, .b), (.ld_b_c, 0x41#8, .b, .c), (.ld_b_d, 0x42#8, .b, .d), (.ld_b_e, 0x43#8, .b, .e),
    (.ld_b_h, 0x44#8, .b, .h), (.ld_b_l, 0x45#8, .b, .l), (.ld_b_a, 0x47#8, .b, .a), (.ld_c_b, 0x48#8, .c, .b),
    (.ld_c_c, 0x49#8, .c, .c), (.ld_c_d, 0x4A#8, .c, .d), (.ld_c_e, 0x4B#8, .c, .e), (.ld_c_h, 0x4C#8, .c, .h),
    (.ld_c_l, 0x4D#8, .c, .l), (.ld_c_a, 0x4F#8, .c, .a), (.ld_d_b, 0x50#8, .d, .b), (.ld_d_c, 0x51#8, .d, .c),
    (.ld_d_d, 0x52#8, .d, .d), (.ld_d_e, 0x53#8, .d, .e), (.ld_d_h, 0x54#8, .d, .h), (.ld_d_l, 0x55#8, .d, .l),
    (.ld_d_a, 0x57#8, .d, .a), (.ld_e_b, 0x58#8, .e, .b), (.ld_e_c, 0x59#8, .e, .c), (.ld_e_d, 0x5A#8, .e, .d),
    (.ld_e_e, 0x5B#8, .e, .e), (.ld_e_h, 0x5C#8, .e, .h), (.ld_e_l, 0x5D#8, .e, .l), (.ld_e_a, 0x5F#8, .e, .a),
    (.ld_h_b, 0x60#8, .h, .b), (.ld_h_c, 0x61#8, .h, .c), (.ld_h_d, 0x62#8, .h, .d), (.ld_h_e, 0x63#8, .h, .e),
    (.ld_h_h, 0x64#8, .h, .h), (.ld_h_l, 0x65#8, .h, .l), (.ld_h_a, 0x67#8, .h, .a), (.ld_l_b, 0x68#8, .l, .b),
    (.ld_l_c, 0x69#8, .l, .c), (.ld_l_d, 0x6A#8, .l, .d), (.ld_l_e, 0x6B#8, .l, .e), (.ld_l_h, 0x6C#8, .l, .h),
    (.ld_l_l, 0x6D#8, .l, .l), (.ld_l_a, 0x6F#8, .l, .a), (.ld_a_b, 0x78#8, .a, .b), (.ld_a_c, 0x79#8, .a, .c),
    (.ld_a_d, 0x7A#8, .a, .d), (.ld_a_e, 0x7B#8, .a, .e), (.ld_a_h, 0x7C#8, .a, .h), (.ld_a_l, 0x7D#8, .a, .l),
    (.ld_a_a, 0x7F#8, .a, .a)] : List (Instr × Byte × Reg8 × Reg8)),
    encodedAs p.1 false p.2.1 0 ∧ ∀ s, loadsReg p.1 s p.2.2.1 (s.reg p.2.2.2) s.pc

/-- 43 R171. -/
def Obligations.LoadRegisterFromImmediate : Prop :=
  ∀ p ∈ ([(.ld_b_n, 0x06#8, .b), (.ld_c_n, 0x0E#8, .c), (.ld_d_n, 0x16#8, .d), (.ld_e_n, 0x1E#8, .e),
    (.ld_h_n, 0x26#8, .h), (.ld_l_n, 0x2E#8, .l), (.ld_a_n, 0x3E#8, .a)] : List (Instr × Byte × Reg8)),
    encodedAs p.1 false p.2.1 1 ∧ ∀ s, loadsReg p.1 s p.2.2 (s.readByte s.pc) (s.pc + 1#16)

/-- 43 R172. -/
def Obligations.LoadRegisterFromHl : Prop :=
  ∀ p ∈ ([(.ld_b_indHL, 0x46#8, .b), (.ld_c_indHL, 0x4E#8, .c), (.ld_d_indHL, 0x56#8, .d), (.ld_e_indHL, 0x5E#8, .e),
    (.ld_h_indHL, 0x66#8, .h), (.ld_l_indHL, 0x6E#8, .l), (.ld_a_indHL, 0x7E#8, .a)] : List (Instr × Byte × Reg8)),
    encodedAs p.1 false p.2.1 0 ∧ ∀ s, loadsReg p.1 s p.2.2 (s.readByte (s.pair .hl)) s.pc

/-- 43 R173. -/
def Obligations.StoreRegisterToHl : Prop :=
  ∀ p ∈ ([(.ld_indHL_b, 0x70#8, .b), (.ld_indHL_c, 0x71#8, .c), (.ld_indHL_d, 0x72#8, .d), (.ld_indHL_e, 0x73#8, .e),
    (.ld_indHL_h, 0x74#8, .h), (.ld_indHL_l, 0x75#8, .l), (.ld_indHL_a, 0x77#8, .a)] : List (Instr × Byte × Reg8)),
    encodedAs p.1 false p.2.1 0 ∧ ∀ s, storesByte p.1 s (effAddr .indHL s).1 (s.reg p.2.2) s.pc ∧
      (effAddr .indHL s).1 = s.pair .hl

/-- 43 R174. -/
def Obligations.StoreImmediateToHl : Prop :=
  encodedAs .ld_indHL_n false 0x36#8 1 ∧
    ∀ s, storesByte .ld_indHL_n s (s.pair .hl) (s.readByte s.pc) (s.pc + 1#16)

/-- 43 R175, R176, R179, R181, R183. -/
def Obligations.LoadAccumulatorIndirect : Prop :=
  (encodedAs .ld_a_indBC false 0x0A#8 0 ∧ ∀ s, loadsReg .ld_a_indBC s .a (s.readByte (s.pair .bc)) s.pc) ∧
  (encodedAs .ld_a_indDE false 0x1A#8 0 ∧ ∀ s, loadsReg .ld_a_indDE s .a (s.readByte (s.pair .de)) s.pc) ∧
  (encodedAs .ld_a_indNN false 0xFA#8 2 ∧
    ∀ s, loadsReg .ld_a_indNN s .a (s.readByte (s.readWord s.pc)) (s.pc + 2#16)) ∧
  (encodedAs .ldh_a_indC false 0xF2#8 0 ∧
    ∀ s, loadsReg .ldh_a_indC s .a (s.readByte (BitVec.ofNat 16 (0xFF00 + (s.reg .c).toNat))) s.pc) ∧
  (encodedAs .ldh_a_indN false 0xF0#8 1 ∧
    ∀ s, loadsReg .ldh_a_indN s .a (s.readByte (BitVec.ofNat 16 (0xFF00 + (s.readByte s.pc).toNat))) (s.pc + 1#16))

/-- 43 R177, R178, R180, R182, R184. -/
def Obligations.StoreAccumulatorIndirect : Prop :=
  (encodedAs .ld_indBC_a false 0x02#8 0 ∧
    ∀ s, storesByte .ld_indBC_a s (effAddr .indBC s).1 (s.reg .a) s.pc ∧ (effAddr .indBC s).1 = s.pair .bc) ∧
  (encodedAs .ld_indDE_a false 0x12#8 0 ∧
    ∀ s, storesByte .ld_indDE_a s (effAddr .indDE s).1 (s.reg .a) s.pc ∧ (effAddr .indDE s).1 = s.pair .de) ∧
  (encodedAs .ld_indNN_a false 0xEA#8 2 ∧
    ∀ s, storesByte .ld_indNN_a s (effAddr .absolute s).1 (s.reg .a) (s.pc + 2#16) ∧
      (effAddr .absolute s).1 = s.readWord s.pc) ∧
  (encodedAs .ldh_indC_a false 0xE2#8 0 ∧
    ∀ s, storesByte .ldh_indC_a s (effAddr .highC s).1 (s.reg .a) s.pc ∧
      (effAddr .highC s).1.toNat = 0xFF00 + (s.reg .c).toNat) ∧
  (encodedAs .ldh_indN_a false 0xE0#8 1 ∧
    ∀ s, storesByte .ldh_indN_a s (effAddr .highN s).1 (s.reg .a) (s.pc + 1#16) ∧
      (effAddr .highN s).1.toNat = 0xFF00 + (s.readByte s.pc).toNat)

/-- 43 R185, R186. -/
def Obligations.LoadAccumulatorAndStepHl : Prop :=
  ∀ p ∈ ([(.ld_a_indHLI, 0x2A#8, 1), (.ld_a_indHLD, 0x3A#8, 65535)] : List (Instr × Byte × Nat)),
    encodedAs p.1 false p.2.1 0 ∧ ∀ s : State, ∃ t, exec p.1 s = .next t ∧
      t.reg .a = s.readByte (s.pair .hl) ∧ (t.pair .hl).toNat = ((s.pair .hl).toNat + p.2.2) % 65536 ∧
      t.f = s.f ∧ t.pc = s.pc ∧ t.sp = s.sp ∧ t.fault = s.fault ∧ regsKept [.a, .h, .l] s t ∧ memKept [] s t

/-- 43 R187, R188. -/
def Obligations.StoreAccumulatorAndStepHl : Prop :=
  ∀ p ∈ ([(.ld_indHLI_a, 0x22#8, .hlInc, 1), (.ld_indHLD_a, 0x32#8, .hlDec, 65535)] :
      List (Instr × Byte × Mode × Nat)),
    encodedAs p.1 false p.2.1 0 ∧ ∀ s : State, (effAddr p.2.2.1 s).1 = s.pair .hl ∧ ∃ t, exec p.1 s = .next t ∧
      (s.mem.wf = true → t.readByte (effAddr p.2.2.1 s).1 = s.reg .a) ∧ memKept [(effAddr p.2.2.1 s).1] s t ∧
      (t.pair .hl).toNat = ((s.pair .hl).toNat + p.2.2.2) % 65536 ∧
      t.f = s.f ∧ t.pc = s.pc ∧ t.sp = s.sp ∧ t.fault = s.fault ∧ regsKept [.h, .l] s t

/-- 44 R200, R201. -/
def Obligations.LoadPairFromImmediate : Prop :=
  (∀ p ∈ ([(.ld_bc_nn, 0x01#8, .b, .c), (.ld_de_nn, 0x11#8, .d, .e), (.ld_hl_nn, 0x21#8, .h, .l)] :
      List (Instr × Byte × Reg8 × Reg8)),
    encodedAs p.1 false p.2.1 2 ∧ ∀ s : State, ∃ t, exec p.1 s = .next t ∧
      t.reg p.2.2.1 = s.readByte (s.pc + 1#16) ∧ t.reg p.2.2.2 = s.readByte s.pc ∧
      t.f = s.f ∧ t.pc = s.pc + 2#16 ∧ t.sp = s.sp ∧ t.fault = s.fault ∧
      regsKept [p.2.2.1, p.2.2.2] s t ∧ memKept [] s t) ∧
  (encodedAs .ld_sp_nn false 0x31#8 2 ∧ ∀ s : State, ∃ t, exec .ld_sp_nn s = .next t ∧
      t.sp.toNat = (s.readByte (s.pc + 1#16)).toNat * 256 + (s.readByte s.pc).toNat ∧
      t.f = s.f ∧ t.pc = s.pc + 2#16 ∧ t.fault = s.fault ∧ regsKept [] s t ∧ memKept [] s t)

/-- 44 R202. -/
def Obligations.StoreSpToMemory : Prop :=
  encodedAs .ld_indNN_sp false 0x08#8 2 ∧ ∀ s : State, (imm16 s).1 = s.readWord s.pc ∧
    ∃ t, exec .ld_indNN_sp s = .next t ∧
      (s.mem.wf = true → t.readByte (imm16 s).1 = s.sp.setWidth 8 ∧
        t.readByte ((imm16 s).1 + 1#16) = (s.sp >>> 8).setWidth 8) ∧
      memKept [(imm16 s).1, (imm16 s).1 + 1#16] s t ∧
      t.f = s.f ∧ t.pc = s.pc + 2#16 ∧ t.sp = s.sp ∧ t.fault = s.fault ∧ regsKept [] s t

/-- 44 R203. -/
def Obligations.LoadSpFromHl : Prop :=
  encodedAs .ld_sp_hl false 0xF9#8 0 ∧ ∀ s : State, ∃ t, exec .ld_sp_hl s = .next t ∧
    t.sp.toNat = (s.reg .h).toNat * 256 + (s.reg .l).toNat ∧
    t.f = s.f ∧ t.pc = s.pc ∧ t.fault = s.fault ∧ regsKept [] s t ∧ memKept [] s t

/-- 45 R211, R212. -/
def Obligations.PushPair : Prop :=
  ∀ p ∈ ([(.push_bc, 0xC5#8, .b, .bc), (.push_de, 0xD5#8, .d, .de), (.push_hl, 0xE5#8, .h, .hl),
      (.push_af, 0xF5#8, .a, .af)] : List (Instr × Byte × Reg8 × Pair)),
    encodedAs p.1 false p.2.1 0 ∧ ∀ s : State, ∃ t, exec p.1 s = .next t ∧
      t.sp.toNat = (s.sp.toNat + 65534) % 65536 ∧
      (s.mem.wf = true → t.readByte (s.sp - 2#16 + 1#16) = s.reg p.2.2.1 ∧
        t.readByte (s.sp - 2#16) = (match p.2.2.2 with
          | .bc => s.reg .c
          | .de => s.reg .e
          | .hl => s.reg .l
          | .af => s.f.toByte)) ∧
      memKept [s.sp - 2#16, s.sp - 2#16 + 1#16] s t ∧
      t.f = s.f ∧ t.pc = s.pc ∧ t.fault = s.fault ∧ regsKept [] s t ∧
      s.f.toByte.toNat = 128 * s.f.z.toNat + 64 * s.f.n.toNat + 32 * s.f.h.toNat + 16 * s.f.c.toNat

/-- 45 R213, R214. -/
def Obligations.PopPair : Prop :=
  (∀ p ∈ ([(.pop_bc, 0xC1#8, .b, .c), (.pop_de, 0xD1#8, .d, .e), (.pop_hl, 0xE1#8, .h, .l)] :
      List (Instr × Byte × Reg8 × Reg8)),
    encodedAs p.1 false p.2.1 0 ∧ ∀ s : State, ∃ t, exec p.1 s = .next t ∧
      t.reg p.2.2.1 = s.readByte (s.sp + 1#16) ∧ t.reg p.2.2.2 = s.readByte s.sp ∧
      t.sp.toNat = (s.sp.toNat + 2) % 65536 ∧ t.f = s.f ∧ t.pc = s.pc ∧ t.fault = s.fault ∧
      regsKept [p.2.2.1, p.2.2.2] s t ∧ memKept [] s t) ∧
  (encodedAs .pop_af false 0xF1#8 0 ∧ ∀ s : State, ∃ t, exec .pop_af s = .next t ∧
      t.reg .a = s.readByte (s.sp + 1#16) ∧
      t.f = { z := (s.readByte s.sp).getLsbD 7, n := (s.readByte s.sp).getLsbD 6
              h := (s.readByte s.sp).getLsbD 5, c := (s.readByte s.sp).getLsbD 4 } ∧
      t.f.toByte = s.readByte s.sp &&& 0xF0#8 ∧
      t.sp.toNat = (s.sp.toNat + 2) % 65536 ∧ t.pc = s.pc ∧ t.fault = s.fault ∧
      regsKept [.a] s t ∧ memKept [] s t)

/-- 45 R215. -/
def Obligations.PushThenPop : Prop :=
  ∀ p ∈ ([(.push_bc, .bc), (.push_de, .de), (.push_hl, .hl), (.push_af, .af)] : List (Instr × Pair)),
  ∀ q ∈ ([(.pop_bc, .bc), (.pop_de, .de), (.pop_hl, .hl), (.pop_af, .af)] : List (Instr × Pair)),
  ∀ s : State, s.mem.wf = true → ∃ t u, exec p.1 s = .next t ∧ exec q.1 t = .next u ∧
    u.pair q.2 = (if q.2 = .af then s.pair p.2 &&& 0xFFF0#16 else s.pair p.2) ∧
    (p.2 = q.2 → u.pair p.2 = s.pair p.2) ∧ u.sp = s.sp ∧ u.readWord (s.sp - 2#16) = s.pair p.2

/-- 44 R205, over the spec's default DECODE_TABLE (00 R5), whatever is in force. The canonical premise is the
invariant of StepKeepsTheInvariant (log 6). -/
def Obligations.LoadSpThenStoreSp : Prop :=
  ∀ (annex : Bool) (mode : ZeroMode) (s : State) (v a : Word), s.mem.wf = true → s.fault = none →
    s.loadBytes 6 s.pc = [0x31#8, v.setWidth 8, (v >>> 8).setWidth 8, 0x08#8, a.setWidth 8, (a >>> 8).setWidth 8] →
    ∃ t u, stepWith (Params.standard annex mode) s = .next t ∧ stepWith (Params.standard annex mode) t = .next u ∧
      u.fault = none ∧ u.readWord a = v

/-- 20 R63, for every storing instruction. The canonical premise is the invariant of StepKeepsTheInvariant (log 6). -/
def Obligations.StoreIsSeenByTheNextFetch : Prop :=
  ∀ (annex : Bool) (mode : ZeroMode) (s : State) (i : Instr), s.mem.wf = true → s.fault = none →
    (DecodeTable.standard annex).decode (fetch s).opcode (fetch s).prefixed = some i →
    ∃ t, stepWith (Params.standard annex mode) s = .next t ∧
      (∀ c ∈ storedBytes (s.setPc (fetch s).pc) i.variant,
        t.pc = s.pc + BitVec.ofNat 16 i.length ∧ t.readByte c.1 = c.2 ∧
        (c.1 = t.pc → c.2 ≠ 0xCB#8 → fetch t = { opcode := c.2, prefixed := false, pc := t.pc + 1#16 }) ∧
        (c.1 = t.pc → c.2 = 0xCB#8 →
          fetch t = { opcode := t.readByte (t.pc + 1#16), prefixed := true, pc := t.pc + 2#16 }) ∧
        (c.1 = t.pc + 1#16 → t.readByte t.pc = 0xCB#8 →
          fetch t = { opcode := c.2, prefixed := true, pc := t.pc + 2#16 })) ∧
      ∀ j, (DecodeTable.standard annex).decode (fetch t).opcode (fetch t).prefixed = some j →
        stepWith (Params.standard annex mode) t = execUnder mode j (t.setPc (fetch t).pc)

/-- 46 R221. -/
def Obligations.JumpAbsolute : Prop :=
  encodedAs .jp_nn false 0xC3#8 2 ∧ ∀ s : State, ∃ t, exec .jp_nn s = .next t ∧
    t.pc.toNat = (s.readByte (s.pc + 1#16)).toNat * 256 + (s.readByte s.pc).toNat ∧
    t.f = s.f ∧ t.sp = s.sp ∧ t.fault = s.fault ∧ regsKept [] s t ∧ memKept [] s t

/-- 46 R220, R222 to R225. -/
def Obligations.JumpConditional : Prop :=
  let ok (i : Instr) (s : State) (holds : Bool) : Prop := ∃ t, exec i s = .next t ∧
    (holds = true → t.pc.toNat = (s.readByte (s.pc + 1#16)).toNat * 256 + (s.readByte s.pc).toNat) ∧
    (holds = false → t.pc = s.pc + 2#16) ∧
    t.f = s.f ∧ t.sp = s.sp ∧ t.fault = s.fault ∧ regsKept [] s t ∧ memKept [] s t
  (encodedAs .jp_nz_nn false 0xC2#8 2 ∧ ∀ s, ok .jp_nz_nn s (!s.f.z)) ∧
  (encodedAs .jp_z_nn false 0xCA#8 2 ∧ ∀ s, ok .jp_z_nn s s.f.z) ∧
  (encodedAs .jp_nc_nn false 0xD2#8 2 ∧ ∀ s, ok .jp_nc_nn s (!s.f.c)) ∧
  (encodedAs .jp_c_nn false 0xDA#8 2 ∧ ∀ s, ok .jp_c_nn s s.f.c)

/-- 47 R231 to R240 (annex). -/
def Obligations.LogicOnAccumulator : Prop :=
  (∀ p ∈ ([(.and_b, 0xA0#8, .b), (.and_c, 0xA1#8, .c), (.and_d, 0xA2#8, .d), (.and_e, 0xA3#8, .e),
    (.and_h, 0xA4#8, .h), (.and_l, 0xA5#8, .l), (.and_a, 0xA7#8, .a)] : List (Instr × Byte × Reg8)),
    encodedAs p.1 false p.2.1 0 ∧ ∀ s, logicsA (· && ·) true p.1 s (s.reg p.2.2) s.pc) ∧
  (encodedAs .and_indHL false 0xA6#8 0 ∧
    ∀ s, logicsA (· && ·) true .and_indHL s (s.readByte (s.pair .hl)) s.pc) ∧
  (encodedAs .and_n false 0xE6#8 1 ∧
    ∀ s, logicsA (· && ·) true .and_n s (s.readByte s.pc) (s.pc + 1#16)) ∧
  (∀ p ∈ ([(.xor_b, 0xA8#8, .b), (.xor_c, 0xA9#8, .c), (.xor_d, 0xAA#8, .d), (.xor_e, 0xAB#8, .e),
    (.xor_h, 0xAC#8, .h), (.xor_l, 0xAD#8, .l), (.xor_a, 0xAF#8, .a)] : List (Instr × Byte × Reg8)),
    encodedAs p.1 false p.2.1 0 ∧ ∀ s, logicsA (· ^^ ·) false p.1 s (s.reg p.2.2) s.pc) ∧
  (encodedAs .xor_indHL false 0xAE#8 0 ∧
    ∀ s, logicsA (· ^^ ·) false .xor_indHL s (s.readByte (s.pair .hl)) s.pc) ∧
  (encodedAs .xor_n false 0xEE#8 1 ∧
    ∀ s, logicsA (· ^^ ·) false .xor_n s (s.readByte s.pc) (s.pc + 1#16)) ∧
  (∀ p ∈ ([(.or_b, 0xB0#8, .b), (.or_c, 0xB1#8, .c), (.or_d, 0xB2#8, .d), (.or_e, 0xB3#8, .e),
    (.or_h, 0xB4#8, .h), (.or_l, 0xB5#8, .l), (.or_a, 0xB7#8, .a)] : List (Instr × Byte × Reg8)),
    encodedAs p.1 false p.2.1 0 ∧ ∀ s, logicsA (· || ·) false p.1 s (s.reg p.2.2) s.pc) ∧
  (encodedAs .or_indHL false 0xB6#8 0 ∧
    ∀ s, logicsA (· || ·) false .or_indHL s (s.readByte (s.pair .hl)) s.pc) ∧
  (encodedAs .or_n false 0xF6#8 1 ∧
    ∀ s, logicsA (· || ·) false .or_n s (s.readByte s.pc) (s.pc + 1#16))

/-- 47 R241 to R244 (annex). -/
def Obligations.RotateAccumulator : Prop :=
  ∀ p ∈ ([(.rlca, 0x07#8, .rlc), (.rrca, 0x0F#8, .rrc), (.rla, 0x17#8, .rl), (.rra, 0x1F#8, .rr)] :
      List (Instr × Byte × ShiftOp)),
    encodedAs p.1 false p.2.1 0 ∧ ∀ s : State, ∃ t, exec p.1 s = .next t ∧
      (t.reg .a).toNat = (shiftNat p.2.2 (s.reg .a).toNat s.f.c).1 ∧
      t.f = { z := false, n := false, h := false, c := (shiftNat p.2.2 (s.reg .a).toNat s.f.c).2 } ∧
      t.pc = s.pc ∧ t.sp = s.sp ∧ t.fault = s.fault ∧ regsKept [.a] s t ∧ memKept [] s t

/-- 47 R251 to R262 (annex). -/
def Obligations.ShiftRegisterOrMemory : Prop :=
  (∀ p ∈ ([(.rlc_b, 0x00#8, .rlc, .b), (.rlc_c, 0x01#8, .rlc, .c), (.rlc_d, 0x02#8, .rlc, .d), (.rlc_e, 0x03#8, .rlc, .e),
    (.rlc_h, 0x04#8, .rlc, .h), (.rlc_l, 0x05#8, .rlc, .l), (.rlc_a, 0x07#8, .rlc, .a), (.rrc_b, 0x08#8, .rrc, .b),
    (.rrc_c, 0x09#8, .rrc, .c), (.rrc_d, 0x0A#8, .rrc, .d), (.rrc_e, 0x0B#8, .rrc, .e), (.rrc_h, 0x0C#8, .rrc, .h),
    (.rrc_l, 0x0D#8, .rrc, .l), (.rrc_a, 0x0F#8, .rrc, .a), (.rl_b, 0x10#8, .rl, .b), (.rl_c, 0x11#8, .rl, .c),
    (.rl_d, 0x12#8, .rl, .d), (.rl_e, 0x13#8, .rl, .e), (.rl_h, 0x14#8, .rl, .h), (.rl_l, 0x15#8, .rl, .l),
    (.rl_a, 0x17#8, .rl, .a), (.rr_b, 0x18#8, .rr, .b), (.rr_c, 0x19#8, .rr, .c), (.rr_d, 0x1A#8, .rr, .d),
    (.rr_e, 0x1B#8, .rr, .e), (.rr_h, 0x1C#8, .rr, .h), (.rr_l, 0x1D#8, .rr, .l), (.rr_a, 0x1F#8, .rr, .a),
    (.sla_b, 0x20#8, .sla, .b), (.sla_c, 0x21#8, .sla, .c), (.sla_d, 0x22#8, .sla, .d), (.sla_e, 0x23#8, .sla, .e),
    (.sla_h, 0x24#8, .sla, .h), (.sla_l, 0x25#8, .sla, .l), (.sla_a, 0x27#8, .sla, .a), (.sra_b, 0x28#8, .sra, .b),
    (.sra_c, 0x29#8, .sra, .c), (.sra_d, 0x2A#8, .sra, .d), (.sra_e, 0x2B#8, .sra, .e), (.sra_h, 0x2C#8, .sra, .h),
    (.sra_l, 0x2D#8, .sra, .l), (.sra_a, 0x2F#8, .sra, .a), (.srl_b, 0x38#8, .srl, .b), (.srl_c, 0x39#8, .srl, .c),
    (.srl_d, 0x3A#8, .srl, .d), (.srl_e, 0x3B#8, .srl, .e), (.srl_h, 0x3C#8, .srl, .h), (.srl_l, 0x3D#8, .srl, .l),
    (.srl_a, 0x3F#8, .srl, .a)] : List (Instr × Byte × ShiftOp × Reg8)),
    encodedAs p.1 true p.2.1 0 ∧ ∀ s : State, ∃ t, exec p.1 s = .next t ∧
      (t.reg p.2.2.2).toNat = (shiftNat p.2.2.1 (s.reg p.2.2.2).toNat s.f.c).1 ∧
      t.f = { z := decide ((t.reg p.2.2.2).toNat = 0), n := false, h := false
              c := (shiftNat p.2.2.1 (s.reg p.2.2.2).toNat s.f.c).2 } ∧
      t.pc = s.pc ∧ t.sp = s.sp ∧ t.fault = s.fault ∧ regsKept [p.2.2.2] s t ∧ memKept [] s t) ∧
  (∀ p ∈ ([(.rlc_indHL, 0x06#8, .rlc), (.rrc_indHL, 0x0E#8, .rrc), (.rl_indHL, 0x16#8, .rl), (.rr_indHL, 0x1E#8, .rr),
    (.sla_indHL, 0x26#8, .sla), (.sra_indHL, 0x2E#8, .sra), (.srl_indHL, 0x3E#8, .srl)] : List (Instr × Byte × ShiftOp)),
    encodedAs p.1 true p.2.1 0 ∧ ∀ s : State, ∃ t, exec p.1 s = .next t ∧
      (s.mem.wf = true → (t.readByte (s.pair .hl)).toNat = (shiftNat p.2.2 (s.readByte (s.pair .hl)).toNat s.f.c).1) ∧
      memKept [s.pair .hl] s t ∧
      t.f = { z := decide ((shiftNat p.2.2 (s.readByte (s.pair .hl)).toNat s.f.c).1 = 0), n := false, h := false
              c := (shiftNat p.2.2 (s.readByte (s.pair .hl)).toNat s.f.c).2 } ∧
      t.pc = s.pc ∧ t.sp = s.sp ∧ t.fault = s.fault ∧ regsKept [] s t)

/-- 00 R5 and 42 R164, for exec and so for every statement about it. Which mode is in force (log 3) the statement does
not rest on. -/
def Obligations.ZeroModeChangesOnlyZOfAddHl : Prop :=
  (∀ (m m' : ZeroMode) (i : Instr) (s : State), ∃ t t', execUnder m i s = .next t ∧ execUnder m' i s = .next t' ∧
    t' = { t with f := { t.f with z := t'.f.z } } ∧ ((∀ p, i.variant ≠ .addHL p) → t' = t)) ∧
  (∀ (i : Instr) (s : State), execUnder addHlZeroMode i s = exec i s)
end

