-- ==== Sys2Proof/Laws/PerInstr.lean ====
section
/-! SUPPORT. The family TableRow, one lemma per instruction: the byte the encoder gives it selects exactly it in the
tables in force, and in the spec's default tables when it is not of the annex (30 R84, R87, 47 R250). -/

namespace Sys2Proof.Laws.TableRow

/-- Where an instruction stands: its slot in the tables in force and in the default tables, and a length that is the
opcode bytes and the operand bytes together (30 R81). -/
def Statement (i : Instr) : Prop :=
  tableInForce.decode i.opcode i.prefixed = some i ∧
    (DecodeTable.standard false).decode i.opcode i.prefixed = (if i.variant.annex then none else some i) ∧
    i.opcode ≠ 0xCB#8 ∧ i.opcodeBytes.length + i.operandWidth = i.length

theorem add_a_b : Statement .add_a_b := by unfold Statement; decide
theorem add_a_c : Statement .add_a_c := by unfold Statement; decide
theorem add_a_d : Statement .add_a_d := by unfold Statement; decide
theorem add_a_e : Statement .add_a_e := by unfold Statement; decide
theorem add_a_h : Statement .add_a_h := by unfold Statement; decide
theorem add_a_l : Statement .add_a_l := by unfold Statement; decide
theorem add_a_indHL : Statement .add_a_indHL := by unfold Statement; decide
theorem add_a_a : Statement .add_a_a := by unfold Statement; decide
theorem adc_a_b : Statement .adc_a_b := by unfold Statement; decide
theorem adc_a_c : Statement .adc_a_c := by unfold Statement; decide
theorem adc_a_d : Statement .adc_a_d := by unfold Statement; decide
theorem adc_a_e : Statement .adc_a_e := by unfold Statement; decide
theorem adc_a_h : Statement .adc_a_h := by unfold Statement; decide
theorem adc_a_l : Statement .adc_a_l := by unfold Statement; decide
theorem adc_a_indHL : Statement .adc_a_indHL := by unfold Statement; decide
theorem adc_a_a : Statement .adc_a_a := by unfold Statement; decide
theorem sub_b : Statement .sub_b := by unfold Statement; decide
theorem sub_c : Statement .sub_c := by unfold Statement; decide
theorem sub_d : Statement .sub_d := by unfold Statement; decide
theorem sub_e : Statement .sub_e := by unfold Statement; decide
theorem sub_h : Statement .sub_h := by unfold Statement; decide
theorem sub_l : Statement .sub_l := by unfold Statement; decide
theorem sub_indHL : Statement .sub_indHL := by unfold Statement; decide
theorem sub_a : Statement .sub_a := by unfold Statement; decide
theorem add_a_n : Statement .add_a_n := by unfold Statement; decide
theorem adc_a_n : Statement .adc_a_n := by unfold Statement; decide
theorem sub_n : Statement .sub_n := by unfold Statement; decide
theorem add_hl_bc : Statement .add_hl_bc := by unfold Statement; decide
theorem add_hl_de : Statement .add_hl_de := by unfold Statement; decide
theorem add_hl_hl : Statement .add_hl_hl := by unfold Statement; decide
theorem ld_indBC_a : Statement .ld_indBC_a := by unfold Statement; decide
theorem ld_b_n : Statement .ld_b_n := by unfold Statement; decide
theorem ld_a_indBC : Statement .ld_a_indBC := by unfold Statement; decide
theorem ld_c_n : Statement .ld_c_n := by unfold Statement; decide
theorem ld_indDE_a : Statement .ld_indDE_a := by unfold Statement; decide
theorem ld_d_n : Statement .ld_d_n := by unfold Statement; decide
theorem ld_a_indDE : Statement .ld_a_indDE := by unfold Statement; decide
theorem ld_e_n : Statement .ld_e_n := by unfold Statement; decide
theorem ld_indHLI_a : Statement .ld_indHLI_a := by unfold Statement; decide
theorem ld_h_n : Statement .ld_h_n := by unfold Statement; decide
theorem ld_a_indHLI : Statement .ld_a_indHLI := by unfold Statement; decide
theorem ld_l_n : Statement .ld_l_n := by unfold Statement; decide
theorem ld_indHLD_a : Statement .ld_indHLD_a := by unfold Statement; decide
theorem ld_indHL_n : Statement .ld_indHL_n := by unfold Statement; decide
theorem ld_a_indHLD : Statement .ld_a_indHLD := by unfold Statement; decide
theorem ld_a_n : Statement .ld_a_n := by unfold Statement; decide
theorem ld_b_b : Statement .ld_b_b := by unfold Statement; decide
theorem ld_b_c : Statement .ld_b_c := by unfold Statement; decide
theorem ld_b_d : Statement .ld_b_d := by unfold Statement; decide
theorem ld_b_e : Statement .ld_b_e := by unfold Statement; decide
theorem ld_b_h : Statement .ld_b_h := by unfold Statement; decide
theorem ld_b_l : Statement .ld_b_l := by unfold Statement; decide
theorem ld_b_indHL : Statement .ld_b_indHL := by unfold Statement; decide
theorem ld_b_a : Statement .ld_b_a := by unfold Statement; decide
theorem ld_c_b : Statement .ld_c_b := by unfold Statement; decide
theorem ld_c_c : Statement .ld_c_c := by unfold Statement; decide
theorem ld_c_d : Statement .ld_c_d := by unfold Statement; decide
theorem ld_c_e : Statement .ld_c_e := by unfold Statement; decide
theorem ld_c_h : Statement .ld_c_h := by unfold Statement; decide
theorem ld_c_l : Statement .ld_c_l := by unfold Statement; decide
theorem ld_c_indHL : Statement .ld_c_indHL := by unfold Statement; decide
theorem ld_c_a : Statement .ld_c_a := by unfold Statement; decide
theorem ld_d_b : Statement .ld_d_b := by unfold Statement; decide
theorem ld_d_c : Statement .ld_d_c := by unfold Statement; decide
theorem ld_d_d : Statement .ld_d_d := by unfold Statement; decide
theorem ld_d_e : Statement .ld_d_e := by unfold Statement; decide
theorem ld_d_h : Statement .ld_d_h := by unfold Statement; decide
theorem ld_d_l : Statement .ld_d_l := by unfold Statement; decide
theorem ld_d_indHL : Statement .ld_d_indHL := by unfold Statement; decide
theorem ld_d_a : Statement .ld_d_a := by unfold Statement; decide
theorem ld_e_b : Statement .ld_e_b := by unfold Statement; decide
theorem ld_e_c : Statement .ld_e_c := by unfold Statement; decide
theorem ld_e_d : Statement .ld_e_d := by unfold Statement; decide
theorem ld_e_e : Statement .ld_e_e := by unfold Statement; decide
theorem ld_e_h : Statement .ld_e_h := by unfold Statement; decide
theorem ld_e_l : Statement .ld_e_l := by unfold Statement; decide
theorem ld_e_indHL : Statement .ld_e_indHL := by unfold Statement; decide
theorem ld_e_a : Statement .ld_e_a := by unfold Statement; decide
theorem ld_h_b : Statement .ld_h_b := by unfold Statement; decide
theorem ld_h_c : Statement .ld_h_c := by unfold Statement; decide
theorem ld_h_d : Statement .ld_h_d := by unfold Statement; decide
theorem ld_h_e : Statement .ld_h_e := by unfold Statement; decide
theorem ld_h_h : Statement .ld_h_h := by unfold Statement; decide
theorem ld_h_l : Statement .ld_h_l := by unfold Statement; decide
theorem ld_h_indHL : Statement .ld_h_indHL := by unfold Statement; decide
theorem ld_h_a : Statement .ld_h_a := by unfold Statement; decide
theorem ld_l_b : Statement .ld_l_b := by unfold Statement; decide
theorem ld_l_c : Statement .ld_l_c := by unfold Statement; decide
theorem ld_l_d : Statement .ld_l_d := by unfold Statement; decide
theorem ld_l_e : Statement .ld_l_e := by unfold Statement; decide
theorem ld_l_h : Statement .ld_l_h := by unfold Statement; decide
theorem ld_l_l : Statement .ld_l_l := by unfold Statement; decide
theorem ld_l_indHL : Statement .ld_l_indHL := by unfold Statement; decide
theorem ld_l_a : Statement .ld_l_a := by unfold Statement; decide
theorem ld_indHL_b : Statement .ld_indHL_b := by unfold Statement; decide
theorem ld_indHL_c : Statement .ld_indHL_c := by unfold Statement; decide
theorem ld_indHL_d : Statement .ld_indHL_d := by unfold Statement; decide
theorem ld_indHL_e : Statement .ld_indHL_e := by unfold Statement; decide
theorem ld_indHL_h : Statement .ld_indHL_h := by unfold Statement; decide
theorem ld_indHL_l : Statement .ld_indHL_l := by unfold Statement; decide
theorem ld_indHL_a : Statement .ld_indHL_a := by unfold Statement; decide
theorem ld_a_b : Statement .ld_a_b := by unfold Statement; decide
theorem ld_a_c : Statement .ld_a_c := by unfold Statement; decide
theorem ld_a_d : Statement .ld_a_d := by unfold Statement; decide
theorem ld_a_e : Statement .ld_a_e := by unfold Statement; decide
theorem ld_a_h : Statement .ld_a_h := by unfold Statement; decide
theorem ld_a_l : Statement .ld_a_l := by unfold Statement; decide
theorem ld_a_indHL : Statement .ld_a_indHL := by unfold Statement; decide
theorem ld_a_a : Statement .ld_a_a := by unfold Statement; decide
theorem ldh_indN_a : Statement .ldh_indN_a := by unfold Statement; decide
theorem ldh_indC_a : Statement .ldh_indC_a := by unfold Statement; decide
theorem ld_indNN_a : Statement .ld_indNN_a := by unfold Statement; decide
theorem ldh_a_indN : Statement .ldh_a_indN := by unfold Statement; decide
theorem ldh_a_indC : Statement .ldh_a_indC := by unfold Statement; decide
theorem ld_a_indNN : Statement .ld_a_indNN := by unfold Statement; decide
theorem ld_bc_nn : Statement .ld_bc_nn := by unfold Statement; decide
theorem ld_indNN_sp : Statement .ld_indNN_sp := by unfold Statement; decide
theorem ld_de_nn : Statement .ld_de_nn := by unfold Statement; decide
theorem ld_hl_nn : Statement .ld_hl_nn := by unfold Statement; decide
theorem ld_sp_nn : Statement .ld_sp_nn := by unfold Statement; decide
theorem ld_sp_hl : Statement .ld_sp_hl := by unfold Statement; decide
theorem pop_bc : Statement .pop_bc := by unfold Statement; decide
theorem push_bc : Statement .push_bc := by unfold Statement; decide
theorem pop_de : Statement .pop_de := by unfold Statement; decide
theorem push_de : Statement .push_de := by unfold Statement; decide
theorem pop_hl : Statement .pop_hl := by unfold Statement; decide
theorem push_hl : Statement .push_hl := by unfold Statement; decide
theorem pop_af : Statement .pop_af := by unfold Statement; decide
theorem push_af : Statement .push_af := by unfold Statement; decide
theorem jp_nz_nn : Statement .jp_nz_nn := by unfold Statement; decide
theorem jp_nn : Statement .jp_nn := by unfold Statement; decide
theorem jp_z_nn : Statement .jp_z_nn := by unfold Statement; decide
theorem jp_nc_nn : Statement .jp_nc_nn := by unfold Statement; decide
theorem jp_c_nn : Statement .jp_c_nn := by unfold Statement; decide
theorem and_b : Statement .and_b := by unfold Statement; decide
theorem and_c : Statement .and_c := by unfold Statement; decide
theorem and_d : Statement .and_d := by unfold Statement; decide
theorem and_e : Statement .and_e := by unfold Statement; decide
theorem and_h : Statement .and_h := by unfold Statement; decide
theorem and_l : Statement .and_l := by unfold Statement; decide
theorem and_indHL : Statement .and_indHL := by unfold Statement; decide
theorem and_a : Statement .and_a := by unfold Statement; decide
theorem xor_b : Statement .xor_b := by unfold Statement; decide
theorem xor_c : Statement .xor_c := by unfold Statement; decide
theorem xor_d : Statement .xor_d := by unfold Statement; decide
theorem xor_e : Statement .xor_e := by unfold Statement; decide
theorem xor_h : Statement .xor_h := by unfold Statement; decide
theorem xor_l : Statement .xor_l := by unfold Statement; decide
theorem xor_indHL : Statement .xor_indHL := by unfold Statement; decide
theorem xor_a : Statement .xor_a := by unfold Statement; decide
theorem or_b : Statement .or_b := by unfold Statement; decide
theorem or_c : Statement .or_c := by unfold Statement; decide
theorem or_d : Statement .or_d := by unfold Statement; decide
theorem or_e : Statement .or_e := by unfold Statement; decide
theorem or_h : Statement .or_h := by unfold Statement; decide
theorem or_l : Statement .or_l := by unfold Statement; decide
theorem or_indHL : Statement .or_indHL := by unfold Statement; decide
theorem or_a : Statement .or_a := by unfold Statement; decide
theorem and_n : Statement .and_n := by unfold Statement; decide
theorem xor_n : Statement .xor_n := by unfold Statement; decide
theorem or_n : Statement .or_n := by unfold Statement; decide
theorem rlca : Statement .rlca := by unfold Statement; decide
theorem rrca : Statement .rrca := by unfold Statement; decide
theorem rla : Statement .rla := by unfold Statement; decide
theorem rra : Statement .rra := by unfold Statement; decide
theorem rlc_b : Statement .rlc_b := by unfold Statement; decide
theorem rlc_c : Statement .rlc_c := by unfold Statement; decide
theorem rlc_d : Statement .rlc_d := by unfold Statement; decide
theorem rlc_e : Statement .rlc_e := by unfold Statement; decide
theorem rlc_h : Statement .rlc_h := by unfold Statement; decide
theorem rlc_l : Statement .rlc_l := by unfold Statement; decide
theorem rlc_indHL : Statement .rlc_indHL := by unfold Statement; decide
theorem rlc_a : Statement .rlc_a := by unfold Statement; decide
theorem rrc_b : Statement .rrc_b := by unfold Statement; decide
theorem rrc_c : Statement .rrc_c := by unfold Statement; decide
theorem rrc_d : Statement .rrc_d := by unfold Statement; decide
theorem rrc_e : Statement .rrc_e := by unfold Statement; decide
theorem rrc_h : Statement .rrc_h := by unfold Statement; decide
theorem rrc_l : Statement .rrc_l := by unfold Statement; decide
theorem rrc_indHL : Statement .rrc_indHL := by unfold Statement; decide
theorem rrc_a : Statement .rrc_a := by unfold Statement; decide
theorem rl_b : Statement .rl_b := by unfold Statement; decide
theorem rl_c : Statement .rl_c := by unfold Statement; decide
theorem rl_d : Statement .rl_d := by unfold Statement; decide
theorem rl_e : Statement .rl_e := by unfold Statement; decide
theorem rl_h : Statement .rl_h := by unfold Statement; decide
theorem rl_l : Statement .rl_l := by unfold Statement; decide
theorem rl_indHL : Statement .rl_indHL := by unfold Statement; decide
theorem rl_a : Statement .rl_a := by unfold Statement; decide
theorem rr_b : Statement .rr_b := by unfold Statement; decide
theorem rr_c : Statement .rr_c := by unfold Statement; decide
theorem rr_d : Statement .rr_d := by unfold Statement; decide
theorem rr_e : Statement .rr_e := by unfold Statement; decide
theorem rr_h : Statement .rr_h := by unfold Statement; decide
theorem rr_l : Statement .rr_l := by unfold Statement; decide
theorem rr_indHL : Statement .rr_indHL := by unfold Statement; decide
theorem rr_a : Statement .rr_a := by unfold Statement; decide
theorem sla_b : Statement .sla_b := by unfold Statement; decide
theorem sla_c : Statement .sla_c := by unfold Statement; decide
theorem sla_d : Statement .sla_d := by unfold Statement; decide
theorem sla_e : Statement .sla_e := by unfold Statement; decide
theorem sla_h : Statement .sla_h := by unfold Statement; decide
theorem sla_l : Statement .sla_l := by unfold Statement; decide
theorem sla_indHL : Statement .sla_indHL := by unfold Statement; decide
theorem sla_a : Statement .sla_a := by unfold Statement; decide
theorem sra_b : Statement .sra_b := by unfold Statement; decide
theorem sra_c : Statement .sra_c := by unfold Statement; decide
theorem sra_d : Statement .sra_d := by unfold Statement; decide
theorem sra_e : Statement .sra_e := by unfold Statement; decide
theorem sra_h : Statement .sra_h := by unfold Statement; decide
theorem sra_l : Statement .sra_l := by unfold Statement; decide
theorem sra_indHL : Statement .sra_indHL := by unfold Statement; decide
theorem sra_a : Statement .sra_a := by unfold Statement; decide
theorem srl_b : Statement .srl_b := by unfold Statement; decide
theorem srl_c : Statement .srl_c := by unfold Statement; decide
theorem srl_d : Statement .srl_d := by unfold Statement; decide
theorem srl_e : Statement .srl_e := by unfold Statement; decide
theorem srl_h : Statement .srl_h := by unfold Statement; decide
theorem srl_l : Statement .srl_l := by unfold Statement; decide
theorem srl_indHL : Statement .srl_indHL := by unfold Statement; decide
theorem srl_a : Statement .srl_a := by unfold Statement; decide

/-- The family over all instructions. -/
theorem all (i : Instr) : Statement i := by
  cases i
  case add_a_b => exact add_a_b
  case add_a_c => exact add_a_c
  case add_a_d => exact add_a_d
  case add_a_e => exact add_a_e
  case add_a_h => exact add_a_h
  case add_a_l => exact add_a_l
  case add_a_indHL => exact add_a_indHL
  case add_a_a => exact add_a_a
  case adc_a_b => exact adc_a_b
  case adc_a_c => exact adc_a_c
  case adc_a_d => exact adc_a_d
  case adc_a_e => exact adc_a_e
  case adc_a_h => exact adc_a_h
  case adc_a_l => exact adc_a_l
  case adc_a_indHL => exact adc_a_indHL
  case adc_a_a => exact adc_a_a
  case sub_b => exact sub_b
  case sub_c => exact sub_c
  case sub_d => exact sub_d
  case sub_e => exact sub_e
  case sub_h => exact sub_h
  case sub_l => exact sub_l
  case sub_indHL => exact sub_indHL
  case sub_a => exact sub_a
  case add_a_n => exact add_a_n
  case adc_a_n => exact adc_a_n
  case sub_n => exact sub_n
  case add_hl_bc => exact add_hl_bc
  case add_hl_de => exact add_hl_de
  case add_hl_hl => exact add_hl_hl
  case ld_indBC_a => exact ld_indBC_a
  case ld_b_n => exact ld_b_n
  case ld_a_indBC => exact ld_a_indBC
  case ld_c_n => exact ld_c_n
  case ld_indDE_a => exact ld_indDE_a
  case ld_d_n => exact ld_d_n
  case ld_a_indDE => exact ld_a_indDE
  case ld_e_n => exact ld_e_n
  case ld_indHLI_a => exact ld_indHLI_a
  case ld_h_n => exact ld_h_n
  case ld_a_indHLI => exact ld_a_indHLI
  case ld_l_n => exact ld_l_n
  case ld_indHLD_a => exact ld_indHLD_a
  case ld_indHL_n => exact ld_indHL_n
  case ld_a_indHLD => exact ld_a_indHLD
  case ld_a_n => exact ld_a_n
  case ld_b_b => exact ld_b_b
  case ld_b_c => exact ld_b_c
  case ld_b_d => exact ld_b_d
  case ld_b_e => exact ld_b_e
  case ld_b_h => exact ld_b_h
  case ld_b_l => exact ld_b_l
  case ld_b_indHL => exact ld_b_indHL
  case ld_b_a => exact ld_b_a
  case ld_c_b => exact ld_c_b
  case ld_c_c => exact ld_c_c
  case ld_c_d => exact ld_c_d
  case ld_c_e => exact ld_c_e
  case ld_c_h => exact ld_c_h
  case ld_c_l => exact ld_c_l
  case ld_c_indHL => exact ld_c_indHL
  case ld_c_a => exact ld_c_a
  case ld_d_b => exact ld_d_b
  case ld_d_c => exact ld_d_c
  case ld_d_d => exact ld_d_d
  case ld_d_e => exact ld_d_e
  case ld_d_h => exact ld_d_h
  case ld_d_l => exact ld_d_l
  case ld_d_indHL => exact ld_d_indHL
  case ld_d_a => exact ld_d_a
  case ld_e_b => exact ld_e_b
  case ld_e_c => exact ld_e_c
  case ld_e_d => exact ld_e_d
  case ld_e_e => exact ld_e_e
  case ld_e_h => exact ld_e_h
  case ld_e_l => exact ld_e_l
  case ld_e_indHL => exact ld_e_indHL
  case ld_e_a => exact ld_e_a
  case ld_h_b => exact ld_h_b
  case ld_h_c => exact ld_h_c
  case ld_h_d => exact ld_h_d
  case ld_h_e => exact ld_h_e
  case ld_h_h => exact ld_h_h
  case ld_h_l => exact ld_h_l
  case ld_h_indHL => exact ld_h_indHL
  case ld_h_a => exact ld_h_a
  case ld_l_b => exact ld_l_b
  case ld_l_c => exact ld_l_c
  case ld_l_d => exact ld_l_d
  case ld_l_e => exact ld_l_e
  case ld_l_h => exact ld_l_h
  case ld_l_l => exact ld_l_l
  case ld_l_indHL => exact ld_l_indHL
  case ld_l_a => exact ld_l_a
  case ld_indHL_b => exact ld_indHL_b
  case ld_indHL_c => exact ld_indHL_c
  case ld_indHL_d => exact ld_indHL_d
  case ld_indHL_e => exact ld_indHL_e
  case ld_indHL_h => exact ld_indHL_h
  case ld_indHL_l => exact ld_indHL_l
  case ld_indHL_a => exact ld_indHL_a
  case ld_a_b => exact ld_a_b
  case ld_a_c => exact ld_a_c
  case ld_a_d => exact ld_a_d
  case ld_a_e => exact ld_a_e
  case ld_a_h => exact ld_a_h
  case ld_a_l => exact ld_a_l
  case ld_a_indHL => exact ld_a_indHL
  case ld_a_a => exact ld_a_a
  case ldh_indN_a => exact ldh_indN_a
  case ldh_indC_a => exact ldh_indC_a
  case ld_indNN_a => exact ld_indNN_a
  case ldh_a_indN => exact ldh_a_indN
  case ldh_a_indC => exact ldh_a_indC
  case ld_a_indNN => exact ld_a_indNN
  case ld_bc_nn => exact ld_bc_nn
  case ld_indNN_sp => exact ld_indNN_sp
  case ld_de_nn => exact ld_de_nn
  case ld_hl_nn => exact ld_hl_nn
  case ld_sp_nn => exact ld_sp_nn
  case ld_sp_hl => exact ld_sp_hl
  case pop_bc => exact pop_bc
  case push_bc => exact push_bc
  case pop_de => exact pop_de
  case push_de => exact push_de
  case pop_hl => exact pop_hl
  case push_hl => exact push_hl
  case pop_af => exact pop_af
  case push_af => exact push_af
  case jp_nz_nn => exact jp_nz_nn
  case jp_nn => exact jp_nn
  case jp_z_nn => exact jp_z_nn
  case jp_nc_nn => exact jp_nc_nn
  case jp_c_nn => exact jp_c_nn
  case and_b => exact and_b
  case and_c => exact and_c
  case and_d => exact and_d
  case and_e => exact and_e
  case and_h => exact and_h
  case and_l => exact and_l
  case and_indHL => exact and_indHL
  case and_a => exact and_a
  case xor_b => exact xor_b
  case xor_c => exact xor_c
  case xor_d => exact xor_d
  case xor_e => exact xor_e
  case xor_h => exact xor_h
  case xor_l => exact xor_l
  case xor_indHL => exact xor_indHL
  case xor_a => exact xor_a
  case or_b => exact or_b
  case or_c => exact or_c
  case or_d => exact or_d
  case or_e => exact or_e
  case or_h => exact or_h
  case or_l => exact or_l
  case or_indHL => exact or_indHL
  case or_a => exact or_a
  case and_n => exact and_n
  case xor_n => exact xor_n
  case or_n => exact or_n
  case rlca => exact rlca
  case rrca => exact rrca
  case rla => exact rla
  case rra => exact rra
  case rlc_b => exact rlc_b
  case rlc_c => exact rlc_c
  case rlc_d => exact rlc_d
  case rlc_e => exact rlc_e
  case rlc_h => exact rlc_h
  case rlc_l => exact rlc_l
  case rlc_indHL => exact rlc_indHL
  case rlc_a => exact rlc_a
  case rrc_b => exact rrc_b
  case rrc_c => exact rrc_c
  case rrc_d => exact rrc_d
  case rrc_e => exact rrc_e
  case rrc_h => exact rrc_h
  case rrc_l => exact rrc_l
  case rrc_indHL => exact rrc_indHL
  case rrc_a => exact rrc_a
  case rl_b => exact rl_b
  case rl_c => exact rl_c
  case rl_d => exact rl_d
  case rl_e => exact rl_e
  case rl_h => exact rl_h
  case rl_l => exact rl_l
  case rl_indHL => exact rl_indHL
  case rl_a => exact rl_a
  case rr_b => exact rr_b
  case rr_c => exact rr_c
  case rr_d => exact rr_d
  case rr_e => exact rr_e
  case rr_h => exact rr_h
  case rr_l => exact rr_l
  case rr_indHL => exact rr_indHL
  case rr_a => exact rr_a
  case sla_b => exact sla_b
  case sla_c => exact sla_c
  case sla_d => exact sla_d
  case sla_e => exact sla_e
  case sla_h => exact sla_h
  case sla_l => exact sla_l
  case sla_indHL => exact sla_indHL
  case sla_a => exact sla_a
  case sra_b => exact sra_b
  case sra_c => exact sra_c
  case sra_d => exact sra_d
  case sra_e => exact sra_e
  case sra_h => exact sra_h
  case sra_l => exact sra_l
  case sra_indHL => exact sra_indHL
  case sra_a => exact sra_a
  case srl_b => exact srl_b
  case srl_c => exact srl_c
  case srl_d => exact srl_d
  case srl_e => exact srl_e
  case srl_h => exact srl_h
  case srl_l => exact srl_l
  case srl_indHL => exact srl_indHL
  case srl_a => exact srl_a

end Sys2Proof.Laws.TableRow
end

