-- ==== Sys2Proof/Laws/Decode.lean ====
section
/-! SUPPORT. What the tables and the decoder say, once: a slot's instruction is of that slot (30 R84, R87), and what a
decoded instruction with its operand is (30 R80, R91). -/

namespace Sys2Proof

/-- An instruction in a slot is encoded by that slot and is admitted; no slot stands at the prefix byte (30 R88). -/
theorem DecodeTable.slot_sound (annex : Bool) (x : Byte) (p : Bool) :
    (match (DecodeTable.standard annex).decode x p with
      | none => true
      | some i => i.opcode == x && i.prefixed == p && i.admitted annex && (p || x != 0xCB#8)) = true := by
  revert annex x p
  decide +kernel

/-- The instruction of a slot is encoded by that slot and is admitted. -/
theorem DecodeTable.decode_some {annex : Bool} {x : Byte} {p : Bool} {i : Instr}
    (h : (DecodeTable.standard annex).decode x p = some i) :
    i.opcode = x ∧ i.prefixed = p ∧ i.admitted annex = true := by
  have hs := DecodeTable.slot_sound annex x p
  simp only [h, Bool.and_eq_true, beq_iff_eq] at hs
  exact ⟨hs.1.1.1, hs.1.1.2, hs.1.2⟩

/-- Every admitted instruction is found in its slot. -/
theorem DecodeTable.decode_opcode (annex : Bool) (i : Instr) (h : i.admitted annex = true) :
    (DecodeTable.standard annex).decode i.opcode i.prefixed = some i := by
  obtain ⟨h1, h2, _⟩ := Laws.TableRow.all i
  cases annex
  · rw [h2]
    simp only [Instr.admitted, Bool.or_false, Bool.not_eq_true'] at h
    simp [h]
  · exact h1

/-- What reading an operand after an opcode answers, exactly. -/
theorem decodeOperand_ok_iff (annex : Bool) (o : Byte) (p : Bool) (bs : List Byte) (c : Code) (rest : List Byte) :
    decodeOperand (DecodeTable.standard annex) o p bs = .ok (c, rest) ↔
      c.wf annex = true ∧ c.instr.opcode = o ∧ c.instr.prefixed = p ∧ bs = c.operand ++ rest := by
  unfold decodeOperand
  constructor
  · intro h
    split at h
    · simp at h
    · rename_i i hi
      split at h
      · rename_i hw
        simp only [Except.ok.injEq, Prod.mk.injEq] at h
        obtain ⟨rfl, rfl⟩ := h
        obtain ⟨h1, h2, h3⟩ := DecodeTable.decode_some hi
        exact ⟨by simp [Code.wf, h3, Code.operandFits, hw], h1, h2, by simp⟩
      · simp at h
  · rintro ⟨hw, rfl, rfl, rfl⟩
    simp only [Code.wf, Bool.and_eq_true, Code.operandFits, beq_iff_eq] at hw
    rw [DecodeTable.decode_opcode annex _ hw.1]
    simp [← hw.2]

end Sys2Proof
end

