-- ==== Sys2Proof/Laws/Flags.lean ====
section
/-! SUPPORT. Joining and splitting of words, and the flag computations in integer terms (41 R140, R141, 42 R160). -/

namespace Sys2Proof.Machine

@[simp] theorem hiByte_join (x y : Byte) : hiByte (join x y) = x := by
  apply BitVec.eq_of_getLsbD_eq
  intro i hi
  simp only [hiByte, join, BitVec.getLsbD_extractLsb', BitVec.getLsbD_append]
  have h1 : ¬ 8 + i < 8 := by omega
  have h2 : 8 + i - 8 = i := by omega
  simp [h1, h2, hi]

@[simp] theorem loByte_join (x y : Byte) : loByte (join x y) = y := by
  apply BitVec.eq_of_getLsbD_eq
  intro i hi
  simp only [loByte, join, BitVec.getLsbD_extractLsb', BitVec.getLsbD_append]
  simp [hi]

@[simp] theorem join_hi_lo (w : Word) : join (hiByte w) (loByte w) = w := by
  apply BitVec.eq_of_getLsbD_eq
  intro i hi
  simp only [join, hiByte, loByte, BitVec.getLsbD_append, BitVec.getLsbD_extractLsb']
  by_cases h : i < 8
  · simp [h]
  · have h1 : 8 + (i - 8) = i := by omega
    have h2 : i - 8 < 8 := by omega
    simp [h, h1, h2]

theorem join_toNat (x y : Byte) : (join x y).toNat = x.toNat * 256 + y.toNat := by
  have hy := y.isLt
  rw [join, BitVec.toNat_append, Nat.shiftLeft_eq, Nat.mul_comm, ← Nat.two_pow_add_eq_or_of_lt hy]

theorem nat_low_nibble (n : Nat) : n &&& 15 = n % 16 := Nat.and_two_pow_sub_one_eq_mod n 4

theorem nat_low_twelve (n : Nat) : n &&& 4095 = n % 4096 := Nat.and_two_pow_sub_one_eq_mod n 12

theorem beq_zero {n : Nat} (v : BitVec n) : (v == 0#n) = decide (v.toNat = 0) := by
  rw [Bool.eq_iff_iff]
  simp [← BitVec.toNat_inj]

theorem bitByte_toNat (x : Bool) : (bitByte x).toNat = x.toNat := by cases x <;> rfl

/-- The sum of `Add8` (41 R140). -/
theorem add8_res (x y : Byte) (cin : Bool) : (add8 x y cin).res.toNat = (x.toNat + y.toNat + cin.toNat) % 256 := by
  simp only [add8, BitVec.toNat_add, bitByte_toNat]
  omega

/-- The flags of `Add8` (41 R140), each from the integer sums. -/
theorem add8_f (x y : Byte) (cin : Bool) : (add8 x y cin).f =
    { z := decide ((x.toNat + y.toNat + cin.toNat) % 256 = 0), n := false
      h := decide (16 ≤ x.toNat % 16 + y.toNat % 16 + cin.toNat)
      c := decide (256 ≤ x.toNat + y.toNat + cin.toNat) } := by
  have hz : (add8 x y cin).f.z = decide ((x.toNat + y.toNat + cin.toNat) % 256 = 0) := by
    rw [← add8_res, ← beq_zero]
    rfl
  rw [← hz]
  simp [add8, nat_low_nibble]

/-- The difference of `Sub8` (41 R141). -/
theorem sub8_res (x y : Byte) : (sub8 x y).res.toNat = (x.toNat + 256 - y.toNat) % 256 := by
  simp only [sub8, BitVec.toNat_sub]
  have := y.isLt
  omega

/-- The flags of `Sub8` (41 R141). -/
theorem sub8_f (x y : Byte) : (sub8 x y).f =
    { z := decide (x.toNat = y.toNat), n := true
      h := decide (x.toNat % 16 < y.toNat % 16), c := decide (x.toNat < y.toNat) } := by
  have hz : (x - y == 0#8) = decide (x.toNat = y.toNat) := by
    rw [Bool.eq_iff_iff]
    simp only [beq_iff_eq, decide_eq_true_eq]
    constructor
    · intro h
      have h' := congrArg BitVec.toNat h
      simp only [BitVec.toNat_sub, BitVec.toNat_ofNat] at h'
      have := x.isLt
      have := y.isLt
      omega
    · intro h
      rw [BitVec.eq_of_toNat_eq h, BitVec.sub_self]
  simp [sub8, nat_low_nibble, hz]

/-- The sum of `Add16` (42 R160). -/
theorem add16_res (x y : Word) : (add16 x y).res.toNat = (x.toNat + y.toNat) % 65536 := by
  simp only [add16, BitVec.toNat_add]

/-- The flags of `Add16` (42 R160). -/
theorem add16_f (x y : Word) : (add16 x y).f =
    { z := decide ((x.toNat + y.toNat) % 65536 = 0), n := false
      h := decide (4096 ≤ x.toNat % 4096 + y.toNat % 4096), c := decide (65536 ≤ x.toNat + y.toNat) } := by
  have hz : (add16 x y).f.z = decide ((x.toNat + y.toNat) % 65536 = 0) := by
    rw [← add16_res, ← beq_zero]
    rfl
  rw [← hz]
  simp [add16, nat_low_twelve]

end Sys2Proof.Machine
end

