-- ==== Sys2Proof/Laws/State.lean ====
section
/-! SUPPORT. One lemma per field per named update of the state, true by rfl, so that no later proof unfolds an update. -/

namespace Sys2Proof.Machine

@[simp] theorem State.setFlags_a (s : State) (v : Flags) : (s.setFlags v).a = s.a := rfl
@[simp] theorem State.setFlags_b (s : State) (v : Flags) : (s.setFlags v).b = s.b := rfl
@[simp] theorem State.setFlags_c (s : State) (v : Flags) : (s.setFlags v).c = s.c := rfl
@[simp] theorem State.setFlags_d (s : State) (v : Flags) : (s.setFlags v).d = s.d := rfl
@[simp] theorem State.setFlags_e (s : State) (v : Flags) : (s.setFlags v).e = s.e := rfl
@[simp] theorem State.setFlags_h (s : State) (v : Flags) : (s.setFlags v).h = s.h := rfl
@[simp] theorem State.setFlags_l (s : State) (v : Flags) : (s.setFlags v).l = s.l := rfl
@[simp] theorem State.setFlags_f (s : State) (v : Flags) : (s.setFlags v).f = v := rfl
@[simp] theorem State.setFlags_pc (s : State) (v : Flags) : (s.setFlags v).pc = s.pc := rfl
@[simp] theorem State.setFlags_sp (s : State) (v : Flags) : (s.setFlags v).sp = s.sp := rfl
@[simp] theorem State.setFlags_mem (s : State) (v : Flags) : (s.setFlags v).mem = s.mem := rfl
@[simp] theorem State.setFlags_fault (s : State) (v : Flags) : (s.setFlags v).fault = s.fault := rfl
@[simp] theorem State.setFlags_reg (s : State) (v : Flags) (r : Reg8) : (s.setFlags v).reg r = s.reg r := by cases r <;> rfl
@[simp] theorem State.setFlags_readByte (s : State) (v : Flags) (x : Word) : (s.setFlags v).readByte x = s.readByte x := rfl
@[simp] theorem State.setFlags_readWord (s : State) (v : Flags) (x : Word) : (s.setFlags v).readWord x = s.readWord x := rfl

@[simp] theorem State.setPc_a (s : State) (v : Word) : (s.setPc v).a = s.a := rfl
@[simp] theorem State.setPc_b (s : State) (v : Word) : (s.setPc v).b = s.b := rfl
@[simp] theorem State.setPc_c (s : State) (v : Word) : (s.setPc v).c = s.c := rfl
@[simp] theorem State.setPc_d (s : State) (v : Word) : (s.setPc v).d = s.d := rfl
@[simp] theorem State.setPc_e (s : State) (v : Word) : (s.setPc v).e = s.e := rfl
@[simp] theorem State.setPc_h (s : State) (v : Word) : (s.setPc v).h = s.h := rfl
@[simp] theorem State.setPc_l (s : State) (v : Word) : (s.setPc v).l = s.l := rfl
@[simp] theorem State.setPc_f (s : State) (v : Word) : (s.setPc v).f = s.f := rfl
@[simp] theorem State.setPc_pc (s : State) (v : Word) : (s.setPc v).pc = v := rfl
@[simp] theorem State.setPc_sp (s : State) (v : Word) : (s.setPc v).sp = s.sp := rfl
@[simp] theorem State.setPc_mem (s : State) (v : Word) : (s.setPc v).mem = s.mem := rfl
@[simp] theorem State.setPc_fault (s : State) (v : Word) : (s.setPc v).fault = s.fault := rfl
@[simp] theorem State.setPc_reg (s : State) (v : Word) (r : Reg8) : (s.setPc v).reg r = s.reg r := by cases r <;> rfl
@[simp] theorem State.setPc_pair (s : State) (v : Word) (q : Pair) : (s.setPc v).pair q = s.pair q := by cases q <;> rfl
@[simp] theorem State.setPc_readByte (s : State) (v : Word) (x : Word) : (s.setPc v).readByte x = s.readByte x := rfl
@[simp] theorem State.setPc_readWord (s : State) (v : Word) (x : Word) : (s.setPc v).readWord x = s.readWord x := rfl

@[simp] theorem State.setSp_a (s : State) (v : Word) : (s.setSp v).a = s.a := rfl
@[simp] theorem State.setSp_b (s : State) (v : Word) : (s.setSp v).b = s.b := rfl
@[simp] theorem State.setSp_c (s : State) (v : Word) : (s.setSp v).c = s.c := rfl
@[simp] theorem State.setSp_d (s : State) (v : Word) : (s.setSp v).d = s.d := rfl
@[simp] theorem State.setSp_e (s : State) (v : Word) : (s.setSp v).e = s.e := rfl
@[simp] theorem State.setSp_h (s : State) (v : Word) : (s.setSp v).h = s.h := rfl
@[simp] theorem State.setSp_l (s : State) (v : Word) : (s.setSp v).l = s.l := rfl
@[simp] theorem State.setSp_f (s : State) (v : Word) : (s.setSp v).f = s.f := rfl
@[simp] theorem State.setSp_pc (s : State) (v : Word) : (s.setSp v).pc = s.pc := rfl
@[simp] theorem State.setSp_sp (s : State) (v : Word) : (s.setSp v).sp = v := rfl
@[simp] theorem State.setSp_mem (s : State) (v : Word) : (s.setSp v).mem = s.mem := rfl
@[simp] theorem State.setSp_fault (s : State) (v : Word) : (s.setSp v).fault = s.fault := rfl
@[simp] theorem State.setSp_reg (s : State) (v : Word) (r : Reg8) : (s.setSp v).reg r = s.reg r := by cases r <;> rfl
@[simp] theorem State.setSp_pair (s : State) (v : Word) (q : Pair) : (s.setSp v).pair q = s.pair q := by cases q <;> rfl
@[simp] theorem State.setSp_readByte (s : State) (v : Word) (x : Word) : (s.setSp v).readByte x = s.readByte x := rfl
@[simp] theorem State.setSp_readWord (s : State) (v : Word) (x : Word) : (s.setSp v).readWord x = s.readWord x := rfl

@[simp] theorem State.writeByte_a (s : State) (a : Word) (v : Byte) : (s.writeByte a v).a = s.a := rfl
@[simp] theorem State.writeByte_b (s : State) (a : Word) (v : Byte) : (s.writeByte a v).b = s.b := rfl
@[simp] theorem State.writeByte_c (s : State) (a : Word) (v : Byte) : (s.writeByte a v).c = s.c := rfl
@[simp] theorem State.writeByte_d (s : State) (a : Word) (v : Byte) : (s.writeByte a v).d = s.d := rfl
@[simp] theorem State.writeByte_e (s : State) (a : Word) (v : Byte) : (s.writeByte a v).e = s.e := rfl
@[simp] theorem State.writeByte_h (s : State) (a : Word) (v : Byte) : (s.writeByte a v).h = s.h := rfl
@[simp] theorem State.writeByte_l (s : State) (a : Word) (v : Byte) : (s.writeByte a v).l = s.l := rfl
@[simp] theorem State.writeByte_f (s : State) (a : Word) (v : Byte) : (s.writeByte a v).f = s.f := rfl
@[simp] theorem State.writeByte_pc (s : State) (a : Word) (v : Byte) : (s.writeByte a v).pc = s.pc := rfl
@[simp] theorem State.writeByte_sp (s : State) (a : Word) (v : Byte) : (s.writeByte a v).sp = s.sp := rfl
@[simp] theorem State.writeByte_mem (s : State) (a : Word) (v : Byte) : (s.writeByte a v).mem = s.mem.write a.toNat v := rfl
@[simp] theorem State.writeByte_fault (s : State) (a : Word) (v : Byte) : (s.writeByte a v).fault = s.fault := rfl
@[simp] theorem State.writeByte_reg (s : State) (a : Word) (v : Byte) (r : Reg8) : (s.writeByte a v).reg r = s.reg r := by cases r <;> rfl
@[simp] theorem State.writeByte_pair (s : State) (a : Word) (v : Byte) (q : Pair) : (s.writeByte a v).pair q = s.pair q := by cases q <;> rfl

@[simp] theorem takeUnimplemented_a (s : State) (o : Byte) (p : Bool) : (takeUnimplemented s o p).a = s.a := rfl
@[simp] theorem takeUnimplemented_b (s : State) (o : Byte) (p : Bool) : (takeUnimplemented s o p).b = s.b := rfl
@[simp] theorem takeUnimplemented_c (s : State) (o : Byte) (p : Bool) : (takeUnimplemented s o p).c = s.c := rfl
@[simp] theorem takeUnimplemented_d (s : State) (o : Byte) (p : Bool) : (takeUnimplemented s o p).d = s.d := rfl
@[simp] theorem takeUnimplemented_e (s : State) (o : Byte) (p : Bool) : (takeUnimplemented s o p).e = s.e := rfl
@[simp] theorem takeUnimplemented_h (s : State) (o : Byte) (p : Bool) : (takeUnimplemented s o p).h = s.h := rfl
@[simp] theorem takeUnimplemented_l (s : State) (o : Byte) (p : Bool) : (takeUnimplemented s o p).l = s.l := rfl
@[simp] theorem takeUnimplemented_f (s : State) (o : Byte) (p : Bool) : (takeUnimplemented s o p).f = s.f := rfl
@[simp] theorem takeUnimplemented_pc (s : State) (o : Byte) (p : Bool) : (takeUnimplemented s o p).pc = s.pc := rfl
@[simp] theorem takeUnimplemented_sp (s : State) (o : Byte) (p : Bool) : (takeUnimplemented s o p).sp = s.sp := rfl
@[simp] theorem takeUnimplemented_mem (s : State) (o : Byte) (p : Bool) : (takeUnimplemented s o p).mem = s.mem := rfl
@[simp] theorem takeUnimplemented_fault (s : State) (o : Byte) (p : Bool) : (takeUnimplemented s o p).fault = some (.unimplementedOpcode o p) := rfl
@[simp] theorem takeUnimplemented_reg (s : State) (o : Byte) (p : Bool) (r : Reg8) : (takeUnimplemented s o p).reg r = s.reg r := by cases r <;> rfl
@[simp] theorem takeUnimplemented_pair (s : State) (o : Byte) (p : Bool) (q : Pair) : (takeUnimplemented s o p).pair q = s.pair q := by cases q <;> rfl
@[simp] theorem takeUnimplemented_readByte (s : State) (o : Byte) (p : Bool) (x : Word) : (takeUnimplemented s o p).readByte x = s.readByte x := rfl
@[simp] theorem takeUnimplemented_readWord (s : State) (o : Byte) (p : Bool) (x : Word) : (takeUnimplemented s o p).readWord x = s.readWord x := rfl

@[simp] theorem State.setReg_f (s : State) (r : Reg8) (v : Byte) : (s.setReg r v).f = s.f := by cases r <;> rfl
@[simp] theorem State.setReg_pc (s : State) (r : Reg8) (v : Byte) : (s.setReg r v).pc = s.pc := by cases r <;> rfl
@[simp] theorem State.setReg_sp (s : State) (r : Reg8) (v : Byte) : (s.setReg r v).sp = s.sp := by cases r <;> rfl
@[simp] theorem State.setReg_mem (s : State) (r : Reg8) (v : Byte) : (s.setReg r v).mem = s.mem := by cases r <;> rfl
@[simp] theorem State.setReg_fault (s : State) (r : Reg8) (v : Byte) : (s.setReg r v).fault = s.fault := by cases r <;> rfl
@[simp] theorem State.setReg_readByte (s : State) (r : Reg8) (v : Byte) (x : Word) :
    (s.setReg r v).readByte x = s.readByte x := by cases r <;> rfl
@[simp] theorem State.setReg_readWord (s : State) (r : Reg8) (v : Byte) (x : Word) :
    (s.setReg r v).readWord x = s.readWord x := by cases r <;> rfl
@[simp] theorem State.setReg_reg_same (s : State) (r : Reg8) (v : Byte) : (s.setReg r v).reg r = v := by cases r <;> rfl
theorem State.setReg_reg_ne (s : State) (r q : Reg8) (v : Byte) (h : q ≠ r) : (s.setReg r v).reg q = s.reg q := by
  cases r <;> cases q <;> first | rfl | exact absurd rfl h
/-- Reading a register after writing one (10 R21). -/
theorem State.setReg_reg (s : State) (r q : Reg8) (v : Byte) :
    (s.setReg r v).reg q = if q = r then v else s.reg q := by
  cases r <;> cases q <;> rfl
theorem State.setReg_self (s : State) (r : Reg8) : s.setReg r (s.reg r) = s := by cases r <;> rfl

@[simp] theorem State.setPair_pc (s : State) (p : Pair) (w : Word) : (s.setPair p w).pc = s.pc := by cases p <;> rfl
@[simp] theorem State.setPair_sp (s : State) (p : Pair) (w : Word) : (s.setPair p w).sp = s.sp := by cases p <;> rfl
@[simp] theorem State.setPair_mem (s : State) (p : Pair) (w : Word) : (s.setPair p w).mem = s.mem := by cases p <;> rfl
@[simp] theorem State.setPair_fault (s : State) (p : Pair) (w : Word) : (s.setPair p w).fault = s.fault := by cases p <;> rfl
@[simp] theorem State.setPair_readByte (s : State) (p : Pair) (w x : Word) :
    (s.setPair p w).readByte x = s.readByte x := by cases p <;> rfl
@[simp] theorem State.setPair_readWord (s : State) (p : Pair) (w x : Word) :
    (s.setPair p w).readWord x = s.readWord x := by cases p <;> rfl
@[simp] theorem State.setPair_f_bc (s : State) (w : Word) : (s.setPair .bc w).f = s.f := rfl
@[simp] theorem State.setPair_f_de (s : State) (w : Word) : (s.setPair .de w).f = s.f := rfl
@[simp] theorem State.setPair_f_hl (s : State) (w : Word) : (s.setPair .hl w).f = s.f := rfl
@[simp] theorem State.setPair_f_af (s : State) (w : Word) : (s.setPair .af w).f = Flags.ofByte (loByte w) := rfl

@[simp] theorem imm8_fst (s : State) : (imm8 s).1 = s.readByte s.pc := rfl
@[simp] theorem imm8_snd (s : State) : (imm8 s).2 = s.setPc (s.pc + 1#16) := rfl
@[simp] theorem imm16_fst (s : State) : (imm16 s).1 = s.readWord s.pc := rfl
@[simp] theorem imm16_snd (s : State) : (imm16 s).2 = s.setPc (s.pc + 2#16) := rfl

@[simp] theorem State.writeWord_a (s : State) (a w : Word) : (s.writeWord a w).a = s.a := rfl
@[simp] theorem State.writeWord_b (s : State) (a w : Word) : (s.writeWord a w).b = s.b := rfl
@[simp] theorem State.writeWord_c (s : State) (a w : Word) : (s.writeWord a w).c = s.c := rfl
@[simp] theorem State.writeWord_d (s : State) (a w : Word) : (s.writeWord a w).d = s.d := rfl
@[simp] theorem State.writeWord_e (s : State) (a w : Word) : (s.writeWord a w).e = s.e := rfl
@[simp] theorem State.writeWord_h (s : State) (a w : Word) : (s.writeWord a w).h = s.h := rfl
@[simp] theorem State.writeWord_l (s : State) (a w : Word) : (s.writeWord a w).l = s.l := rfl
@[simp] theorem State.writeWord_f (s : State) (a w : Word) : (s.writeWord a w).f = s.f := rfl
@[simp] theorem State.writeWord_pc (s : State) (a w : Word) : (s.writeWord a w).pc = s.pc := rfl
@[simp] theorem State.writeWord_sp (s : State) (a w : Word) : (s.writeWord a w).sp = s.sp := rfl
@[simp] theorem State.writeWord_fault (s : State) (a w : Word) : (s.writeWord a w).fault = s.fault := rfl
@[simp] theorem State.writeWord_reg (s : State) (a w : Word) (r : Reg8) : (s.writeWord a w).reg r = s.reg r := by
  cases r <;> rfl
@[simp] theorem State.writeWord_pair (s : State) (a w : Word) (p : Pair) : (s.writeWord a w).pair p = s.pair p := by
  cases p <;> rfl

end Sys2Proof.Machine
end

