-- ==== Sys2Proof/Laws/Memory.lean ====
section
/-! SUPPORT. The laws of memory: read after write, the canonical form and its uniqueness, word accesses (20 R51 to R54). -/

namespace Sys2Proof.Machine

theorem Memory.wfFrom_mono {lo lo' : Nat} (h : lo' ≤ lo) {m : Memory} (hm : Memory.wfFrom lo m = true) :
    Memory.wfFrom lo' m = true := by
  cases m with
  | nil => rfl
  | cons c m =>
    obtain ⟨k, x⟩ := c
    simp only [Memory.wfFrom, Bool.and_eq_true, decide_eq_true_eq] at hm ⊢
    exact ⟨⟨⟨by omega, hm.1.1.2⟩, hm.1.2⟩, hm.2⟩

/-- An address below every listed one reads 0x00. -/
theorem Memory.read_below {lo a : Nat} (h : a < lo) {m : Memory} (hm : Memory.wfFrom lo m = true) :
    Memory.read m a = 0x00#8 := by
  induction m generalizing lo with
  | nil => rfl
  | cons c m ih =>
    obtain ⟨k, x⟩ := c
    simp only [Memory.wfFrom, Bool.and_eq_true, decide_eq_true_eq] at hm
    have hk : a ≠ k := by omega
    simp only [Memory.read, hk, if_false]
    exact ih (by omega) hm.2

/-- Read after write at the same address: needs the canonical form, since a removed cell must not uncover another. -/
theorem Memory.read_write_same {lo : Nat} {m : Memory} (hm : Memory.wfFrom lo m = true) (a : Nat) (v : Byte) :
    Memory.read (Memory.write m a v) a = v := by
  induction m generalizing lo with
  | nil => by_cases hv : v = 0x00#8 <;> simp [Memory.write, Memory.read, hv]
  | cons c m ih =>
    obtain ⟨k, x⟩ := c
    simp only [Memory.wfFrom, Bool.and_eq_true, decide_eq_true_eq] at hm
    by_cases h1 : a < k
    · by_cases hv : v = 0x00#8
      · have hk : a ≠ k := by omega
        simp only [Memory.write, h1, hv, if_true, Memory.read, hk, if_false]
        exact Memory.read_below (by omega) hm.2
      · simp [Memory.write, h1, hv, Memory.read]
    · by_cases h2 : a = k
      · by_cases hv : v = 0x00#8
        · simp only [Memory.write, h2, hv, Nat.lt_irrefl, if_false, if_true]
          exact Memory.read_below (by omega) hm.2
        · simp [Memory.write, h2, hv, Memory.read]
      · simp only [Memory.write, h1, h2, if_false, Memory.read]
        exact ih hm.2

/-- Read after write elsewhere. -/
theorem Memory.read_write_ne (m : Memory) (a b : Nat) (v : Byte) (hab : b ≠ a) :
    Memory.read (Memory.write m a v) b = Memory.read m b := by
  induction m with
  | nil => by_cases hv : v = 0x00#8 <;> simp [Memory.write, Memory.read, hv, hab]
  | cons c m ih =>
    obtain ⟨k, x⟩ := c
    by_cases h1 : a < k
    · by_cases hv : v = 0x00#8 <;> simp [Memory.write, h1, hv, Memory.read, hab]
    · by_cases h2 : a = k
      · subst h2
        by_cases hv : v = 0x00#8 <;> simp [Memory.write, hv, Memory.read, hab]
      · simp only [Memory.write, h1, h2, if_false, Memory.read, ih]

/-- A write keeps the canonical form. -/
theorem Memory.write_wfFrom {lo : Nat} {m : Memory} (hm : Memory.wfFrom lo m = true) (a : Nat) (v : Byte)
    (hlo : lo ≤ a) (ha : a < 65536) : Memory.wfFrom lo (Memory.write m a v) = true := by
  induction m generalizing lo with
  | nil => by_cases hv : v = 0x00#8 <;> simp [Memory.write, Memory.wfFrom, hv, hlo, ha]
  | cons c m ih =>
    obtain ⟨k, x⟩ := c
    have hm' := hm
    simp only [Memory.wfFrom, Bool.and_eq_true, decide_eq_true_eq] at hm'
    obtain ⟨⟨⟨hk1, hk2⟩, hx⟩, ht⟩ := hm'
    by_cases h1 : a < k
    · by_cases hv : v = 0x00#8
      · simpa only [Memory.write, h1, hv, if_true] using hm
      · simp only [Memory.write, h1, hv, if_true, if_false, Memory.wfFrom, Bool.and_eq_true, decide_eq_true_eq]
        exact ⟨⟨⟨hlo, ha⟩, by simpa using hv⟩, ⟨⟨⟨by omega, hk2⟩, hx⟩, ht⟩⟩
    · by_cases h2 : a = k
      · subst h2
        by_cases hv : v = 0x00#8
        · simp only [Memory.write, hv, Nat.lt_irrefl, if_false, if_true]
          exact Memory.wfFrom_mono (by omega) ht
        · simp only [Memory.write, hv, Nat.lt_irrefl, if_false, if_true, Memory.wfFrom, Bool.and_eq_true,
            decide_eq_true_eq]
          exact ⟨⟨⟨hlo, ha⟩, by simpa using hv⟩, ht⟩
      · simp only [Memory.write, h1, h2, if_false, Memory.wfFrom, Bool.and_eq_true, decide_eq_true_eq]
        exact ⟨⟨⟨hk1, hk2⟩, hx⟩, ih ht (by omega)⟩

theorem State.readByte_writeByte_same (s : State) (hm : s.mem.wf = true) (a : Word) (v : Byte) :
    (s.writeByte a v).readByte a = v := Memory.read_write_same hm _ _

theorem State.readByte_writeByte_ne (s : State) (a b : Word) (v : Byte) (h : b ≠ a) :
    (s.writeByte a v).readByte b = s.readByte b :=
  Memory.read_write_ne _ _ _ _ fun e => h (BitVec.eq_of_toNat_eq e)

theorem State.writeByte_wf (s : State) (hm : s.mem.wf = true) (a : Word) (v : Byte) : (s.writeByte a v).mem.wf = true :=
  Memory.write_wfFrom hm _ _ (Nat.zero_le _) a.isLt

theorem State.writeWord_wf (s : State) (hm : s.mem.wf = true) (a w : Word) : (s.writeWord a w).mem.wf = true :=
  State.writeByte_wf _ (State.writeByte_wf _ hm _ _) _ _

theorem State.storeBytes_wf (s : State) (hm : s.mem.wf = true) (a : Word) (vs : List Byte) :
    (s.storeBytes a vs).mem.wf = true := by
  induction vs generalizing s a with
  | nil => exact hm
  | cons v vs ih => exact ih _ (State.writeByte_wf _ hm _ _) _

theorem add_one_ne (a : Word) : a + 1#16 ≠ a := by bv_omega

/-- The low byte of a stored word lies at its address (20 R54). -/
theorem State.readByte_writeWord_lo (s : State) (hm : s.mem.wf = true) (a w : Word) :
    (s.writeWord a w).readByte a = loByte w := by
  unfold State.writeWord
  rw [State.readByte_writeByte_ne _ _ _ _ (add_one_ne a).symm, State.readByte_writeByte_same _ hm]

/-- The high byte of a stored word lies at the next address, which wraps (20 R54). -/
theorem State.readByte_writeWord_hi (s : State) (hm : s.mem.wf = true) (a w : Word) :
    (s.writeWord a w).readByte (a + 1#16) = hiByte w :=
  State.readByte_writeByte_same _ (State.writeByte_wf _ hm _ _) _ _

theorem State.readByte_writeWord_ne (s : State) (a b w : Word) (h0 : b ≠ a) (h1 : b ≠ a + 1#16) :
    (s.writeWord a w).readByte b = s.readByte b := by
  unfold State.writeWord
  rw [State.readByte_writeByte_ne _ _ _ _ h1, State.readByte_writeByte_ne _ _ _ _ h0]

end Sys2Proof.Machine
end

