-- ==== Sys2Proof/Laws/Handler.lean ====
section
/-! SUPPORT. exec is the handler of the Instruction value the row names (40 R113), so that a statement over all
instructions splits on 44 variants and not on 221 constructors. -/

namespace Sys2Proof.Machine

/-- The shared operation each variant's meaning runs (30 R87, "rule" column). -/
def handler (mode : ZeroMode) : Variant → State → Result
  | .add src, s => addA src s
  | .adc src, s => adcA src s
  | .sub src, s => subA src s
  | .addHL p, s => addHl mode p s
  | .ldRegReg dst src, s => ldRegReg dst src s
  | .ldRegImm r, s => ldRegImm r s
  | .ldRegIndHL r, s => load .indHL r s
  | .ldIndHLReg r, s => store .indHL r s
  | .ldIndHLImm, s => storeImm s
  | .ldAIndBC, s => load .indBC .a s
  | .ldAIndDE, s => load .indDE .a s
  | .ldIndBCA, s => store .indBC .a s
  | .ldIndDEA, s => store .indDE .a s
  | .ldAIndNN, s => load .absolute .a s
  | .ldIndNNA, s => store .absolute .a s
  | .ldhAIndC, s => load .highC .a s
  | .ldhIndCA, s => store .highC .a s
  | .ldhAIndN, s => load .highN .a s
  | .ldhIndNA, s => store .highN .a s
  | .ldAIndHLInc, s => load .hlInc .a s
  | .ldAIndHLDec, s => load .hlDec .a s
  | .ldIndHLIncA, s => store .hlInc .a s
  | .ldIndHLDecA, s => store .hlDec .a s
  | .ldPairImm p, s => ldPairImm p s
  | .ldIndNNSP, s => ldIndNNSP s
  | .ldSPHL, s => ldSPHL s
  | .push p, s => push p s
  | .pop p, s => pop p s
  | .jp, s => jump s
  | .jpCond cc, s => jumpIf cc s
  | .and src, s => logicA .and src s
  | .xor src, s => logicA .xor src s
  | .or src, s => logicA .or src s
  | .rlca, s => rotateA .rlc s
  | .rrca, s => rotateA .rrc s
  | .rla, s => rotateA .rl s
  | .rra, s => rotateA .rr s
  | .rlc t, s => shiftTgt .rlc t s
  | .rrc t, s => shiftTgt .rrc t s
  | .rl t, s => shiftTgt .rl t s
  | .rr t, s => shiftTgt .rr t s
  | .sla t, s => shiftTgt .sla t s
  | .sra t, s => shiftTgt .sra t s
  | .srl t, s => shiftTgt .srl t s

theorem exec_eq_handler (i : Instr) (s : State) : exec i s = handler addHlZeroMode i.variant s := by
  cases i <;> rfl

/-- The handlers under a mode, the same way: a case split over the variants serves every mode. -/
theorem execUnder_eq_handler (mode : ZeroMode) (i : Instr) (s : State) :
    execUnder mode i s = handler mode i.variant s := by
  cases i <;> rfl

/-- Of the variants only ADD HL,rr depends on the mode. -/
theorem handler_mode (m m' : ZeroMode) (v : Variant) (s : State) (h : ∀ p, v ≠ .addHL p) :
    handler m v s = handler m' v s := by
  cases v <;> first | rfl | exact absurd rfl (h _)

end Sys2Proof.Machine
end

