-- ==== Sys2Proof/Laws/Ops.lean ====
section
/-! SUPPORT. What the operand forms and shared operations change and what they leave: one lemma per field, cited instead
of unfolding them (40 R116, R121). Every shared operation answers a next state; the lemmas here say which fields of it
are those of the state it started from. -/

namespace Sys2Proof.Machine

@[simp] theorem readSrc_a (src : Src8) (s : State) : (readSrc src s).2.a = s.a := by cases src <;> rfl
@[simp] theorem readSrc_b (src : Src8) (s : State) : (readSrc src s).2.b = s.b := by cases src <;> rfl
@[simp] theorem readSrc_c (src : Src8) (s : State) : (readSrc src s).2.c = s.c := by cases src <;> rfl
@[simp] theorem readSrc_d (src : Src8) (s : State) : (readSrc src s).2.d = s.d := by cases src <;> rfl
@[simp] theorem readSrc_e (src : Src8) (s : State) : (readSrc src s).2.e = s.e := by cases src <;> rfl
@[simp] theorem readSrc_h (src : Src8) (s : State) : (readSrc src s).2.h = s.h := by cases src <;> rfl
@[simp] theorem readSrc_l (src : Src8) (s : State) : (readSrc src s).2.l = s.l := by cases src <;> rfl
@[simp] theorem readSrc_f (src : Src8) (s : State) : (readSrc src s).2.f = s.f := by cases src <;> rfl
@[simp] theorem readSrc_sp (src : Src8) (s : State) : (readSrc src s).2.sp = s.sp := by cases src <;> rfl
@[simp] theorem readSrc_mem (src : Src8) (s : State) : (readSrc src s).2.mem = s.mem := by cases src <;> rfl
@[simp] theorem readSrc_fault (src : Src8) (s : State) : (readSrc src s).2.fault = s.fault := by cases src <;> rfl
@[simp] theorem readSrc_reg (src : Src8) (s : State) (r : Reg8) : (readSrc src s).2.reg r = s.reg r := by
  cases src <;> simp [readSrc]
@[simp] theorem readSrc_readByte (src : Src8) (s : State) (x : Word) :
    (readSrc src s).2.readByte x = s.readByte x := by cases src <;> rfl
/-- The pc after an ALU operand (41: each variant advances pc by the operand's width). -/
theorem readSrc_pc (src : Src8) (s : State) :
    (readSrc src s).2.pc = s.pc + BitVec.ofNat 16 (srcFormat src).operandWidth := by
  cases src <;> simp [readSrc, srcFormat, Format.operandWidth]

@[simp] theorem effAddr_a (m : Mode) (s : State) : (effAddr m s).2.a = s.a := by cases m <;> rfl
@[simp] theorem effAddr_b (m : Mode) (s : State) : (effAddr m s).2.b = s.b := by cases m <;> rfl
@[simp] theorem effAddr_c (m : Mode) (s : State) : (effAddr m s).2.c = s.c := by cases m <;> rfl
@[simp] theorem effAddr_d (m : Mode) (s : State) : (effAddr m s).2.d = s.d := by cases m <;> rfl
@[simp] theorem effAddr_e (m : Mode) (s : State) : (effAddr m s).2.e = s.e := by cases m <;> rfl
@[simp] theorem effAddr_h (m : Mode) (s : State) : (effAddr m s).2.h = s.h := by cases m <;> rfl
@[simp] theorem effAddr_l (m : Mode) (s : State) : (effAddr m s).2.l = s.l := by cases m <;> rfl
@[simp] theorem effAddr_f (m : Mode) (s : State) : (effAddr m s).2.f = s.f := by cases m <;> rfl
@[simp] theorem effAddr_sp (m : Mode) (s : State) : (effAddr m s).2.sp = s.sp := by cases m <;> rfl
@[simp] theorem effAddr_mem (m : Mode) (s : State) : (effAddr m s).2.mem = s.mem := by cases m <;> rfl
@[simp] theorem effAddr_fault (m : Mode) (s : State) : (effAddr m s).2.fault = s.fault := by cases m <;> rfl
@[simp] theorem effAddr_reg (m : Mode) (s : State) (r : Reg8) : (effAddr m s).2.reg r = s.reg r := by
  cases m <;> simp [effAddr]
@[simp] theorem effAddr_readByte (m : Mode) (s : State) (x : Word) : (effAddr m s).2.readByte x = s.readByte x := by
  cases m <;> rfl

@[simp] theorem afterAccess_f (m : Mode) (x : Word) (s : State) : (afterAccess m x s).f = s.f := by
  cases m <;> simp [afterAccess]
@[simp] theorem afterAccess_pc (m : Mode) (x : Word) (s : State) : (afterAccess m x s).pc = s.pc := by
  cases m <;> simp [afterAccess]
@[simp] theorem afterAccess_sp (m : Mode) (x : Word) (s : State) : (afterAccess m x s).sp = s.sp := by
  cases m <;> simp [afterAccess]
@[simp] theorem afterAccess_mem (m : Mode) (x : Word) (s : State) : (afterAccess m x s).mem = s.mem := by
  cases m <;> simp [afterAccess]
@[simp] theorem afterAccess_fault (m : Mode) (x : Word) (s : State) : (afterAccess m x s).fault = s.fault := by
  cases m <;> simp [afterAccess]
@[simp] theorem afterAccess_readByte (m : Mode) (x : Word) (s : State) (y : Word) :
    (afterAccess m x s).readByte y = s.readByte y := by cases m <;> simp [afterAccess]
/-- The adjustment writes at most H and L (43 R185 to R188). -/
theorem afterAccess_reg (m : Mode) (x : Word) (s : State) (r : Reg8) (hh : r ≠ .h) (hl : r ≠ .l) :
    (afterAccess m x s).reg r = s.reg r := by
  cases m <;> simp [afterAccess, State.setPair, State.setReg_reg, hh, hl]

/-- A write of a pair view reads back; AF drops bits 3 to 0 (10 R26, R27), here for the three pairs of cells. -/
theorem setPair_pair_same (s : State) (w : Word) :
    (s.setPair .bc w).pair .bc = w ∧ (s.setPair .de w).pair .de = w ∧ (s.setPair .hl w).pair .hl = w := by
  simp [State.setPair, State.pair, State.setReg]

/-- A pair write changes no register outside the pair (10 R26). -/
theorem setPair_reg (s : State) (p : Pair) (w : Word) (r : Reg8) (h : r ∉ pairCells p) :
    (s.setPair p w).reg r = s.reg r := by
  cases p <;> cases r <;> simp_all [pairCells, State.setPair, State.setReg, State.reg, State.setFlags]

@[simp] theorem writeTgt_f (t : Tgt8) (v : Byte) (s : State) : (writeTgt t v s).f = s.f := by
  cases t <;> simp [writeTgt]
@[simp] theorem writeTgt_pc (t : Tgt8) (v : Byte) (s : State) : (writeTgt t v s).pc = s.pc := by
  cases t <;> simp [writeTgt]
@[simp] theorem writeTgt_sp (t : Tgt8) (v : Byte) (s : State) : (writeTgt t v s).sp = s.sp := by
  cases t <;> simp [writeTgt]
@[simp] theorem writeTgt_fault (t : Tgt8) (v : Byte) (s : State) : (writeTgt t v s).fault = s.fault := by
  cases t <;> simp [writeTgt]
@[simp] theorem setLoadPair_f (p : LoadPair) (w : Word) (s : State) : (setLoadPair p w s).f = s.f := by
  cases p <;> simp [setLoadPair]
@[simp] theorem setLoadPair_pc (p : LoadPair) (w : Word) (s : State) : (setLoadPair p w s).pc = s.pc := by
  cases p <;> simp [setLoadPair]
@[simp] theorem setLoadPair_mem (p : LoadPair) (w : Word) (s : State) : (setLoadPair p w s).mem = s.mem := by
  cases p <;> simp [setLoadPair]
@[simp] theorem setLoadPair_fault (p : LoadPair) (w : Word) (s : State) : (setLoadPair p w s).fault = s.fault := by
  cases p <;> simp [setLoadPair]

/-- Every handler answers a next state and leaves `fault` alone: the case split over the variants, done once (40 R120). -/
theorem handler_next (mode : ZeroMode) (v : Variant) (s : State) :
    ∃ t, handler mode v s = .next t ∧ t.fault = s.fault := by
  cases v <;> simp only [handler]
  case jpCond cc =>
    unfold jumpIf jump
    split <;> exact ⟨_, rfl, rfl⟩
  all_goals
    refine ⟨_, rfl, ?_⟩
    simp [writeAlu]

/-- What a step can do, once: with no fault latched it takes the exception or runs the handler (40 R111 to R113). -/
theorem stepWith_cases {P : Params} {s t : State} (h : stepWith P s = .next t) :
    s.fault = none ∧
      ((P.tables.decode (fetch s).opcode (fetch s).prefixed = none ∧
          t = takeUnimplemented s (fetch s).opcode (fetch s).prefixed) ∨
        ∃ i, P.tables.decode (fetch s).opcode (fetch s).prefixed = some i ∧ execUnder P.addHlZeroMode i (s.setPc (fetch s).pc) = .next t) := by
  unfold stepWith at h
  cases hf : s.fault with
  | some r => simp [hf] at h
  | none =>
    simp only [hf] at h
    cases hd : P.tables.decode (fetch s).opcode (fetch s).prefixed with
    | none =>
      simp only [hd, Host.Outcome.next.injEq] at h
      exact ⟨rfl, .inl ⟨rfl, h.symm⟩⟩
    | some i => exact ⟨rfl, .inr ⟨i, rfl, by simpa only [hd] using h⟩⟩

end Sys2Proof.Machine
end

