-- ==== Sys2Proof/Laws/Families.lean ====
section
/-! SUPPORT. One lemma per shared operation of the families: everything the next state it answers is, field by field. -/

namespace Sys2Proof.Machine

/-- The bytes an operand form advances pc over (40 R114). -/
def srcWidth (src : Src8) : Nat := (srcFormat src).operandWidth

/-- Everything an ALU write back of `r` after the operand `src` leaves (41 R142, R143, R144; 40 R121). -/
structure AluLeaves (r : AluResult) (src : Src8) (s t : State) : Prop where
  acc : t.reg .a = r.res
  flags : t.f = r.f
  pc : t.pc = s.pc + BitVec.ofNat 16 (srcWidth src)
  sp : t.sp = s.sp
  fault : t.fault = s.fault
  mem : t.mem = s.mem
  regs : ∀ q : Reg8, q ≠ .a → t.reg q = s.reg q

theorem aluLeaves (r : AluResult) (src : Src8) (s : State) : AluLeaves r src s (writeAlu r (readSrc src s).2) where
  acc := by simp [writeAlu]
  flags := by simp [writeAlu]
  pc := by simp [writeAlu, readSrc_pc, srcWidth]
  sp := by simp [writeAlu]
  fault := by simp [writeAlu]
  mem := by simp [writeAlu]
  regs := fun q hq => by simp [writeAlu, State.setReg_reg, hq]

theorem addA_next (src : Src8) (s : State) :
    ∃ t, addA src s = .next t ∧ AluLeaves (add8 (s.reg .a) (readSrc src s).1 false) src s t :=
  ⟨_, rfl, by simpa only [readSrc_reg] using aluLeaves (add8 (s.reg .a) (readSrc src s).1 false) src s⟩

theorem adcA_next (src : Src8) (s : State) :
    ∃ t, adcA src s = .next t ∧ AluLeaves (add8 (s.reg .a) (readSrc src s).1 s.f.c) src s t :=
  ⟨_, rfl, by simpa only [readSrc_reg, readSrc_f] using aluLeaves (add8 (s.reg .a) (readSrc src s).1 s.f.c) src s⟩

theorem subA_next (src : Src8) (s : State) :
    ∃ t, subA src s = .next t ∧ AluLeaves (sub8 (s.reg .a) (readSrc src s).1) src s t :=
  ⟨_, rfl, by simpa only [readSrc_reg] using aluLeaves (sub8 (s.reg .a) (readSrc src s).1) src s⟩

theorem logicA_next (op : LogicOp) (src : Src8) (s : State) :
    ∃ t, logicA op src s = .next t ∧ AluLeaves (logic op (s.reg .a) (readSrc src s).1) src s t :=
  ⟨_, rfl, by simpa only [readSrc_reg, writeAlu] using aluLeaves (logic op (s.reg .a) (readSrc src s).1) src s⟩

/-- RLCA, RRCA, RLA, RRA (47 R241 to R244). -/
theorem rotateA_next (op : ShiftOp) (s : State) :
    ∃ t, rotateA op s = .next t ∧ t.reg .a = shiftRes op (s.reg .a) s.f.c ∧
      t.f = { z := false, n := false, h := false, c := shiftOut op (s.reg .a) } ∧
      t.pc = s.pc ∧ t.sp = s.sp ∧ t.fault = s.fault ∧ t.mem = s.mem ∧ ∀ q : Reg8, q ≠ .a → t.reg q = s.reg q := by
  refine ⟨_, rfl, ?_⟩
  simp +contextual [State.setReg_reg]

/-- A CB-prefixed rotate or shift of a register (47 R251). -/
theorem shiftTgt_reg_next (op : ShiftOp) (r : Reg8) (s : State) :
    ∃ t, shiftTgt op (.reg r) s = .next t ∧ t.reg r = (shift op (s.reg r) s.f.c).res ∧
      t.f = (shift op (s.reg r) s.f.c).f ∧
      t.pc = s.pc ∧ t.sp = s.sp ∧ t.fault = s.fault ∧ t.mem = s.mem ∧ ∀ q : Reg8, q ≠ r → t.reg q = s.reg q := by
  refine ⟨_, rfl, ?_⟩
  simp +contextual [State.setReg_reg, writeTgt, readTgt]

/-- A CB-prefixed rotate or shift of the byte at HL (47 R251). -/
theorem shiftTgt_indHL_next (op : ShiftOp) (s : State) :
    ∃ t, shiftTgt op .indHL s = .next t ∧
      t.mem = s.mem.write (s.pair .hl).toNat (shift op (s.readByte (s.pair .hl)) s.f.c).res ∧
      t.f = (shift op (s.readByte (s.pair .hl)) s.f.c).f ∧
      t.pc = s.pc ∧ t.sp = s.sp ∧ t.fault = s.fault ∧ ∀ q : Reg8, t.reg q = s.reg q := by
  refine ⟨_, rfl, ?_⟩
  simp [writeTgt, readTgt]

/-- ADD HL,rr (42 R161 to R164). -/
theorem addHl_next (mode : ZeroMode) (p : AddPair) (s : State) :
    ∃ t, addHl mode p s = .next t ∧ t.pair .hl = (add16 (s.pair .hl) (s.pair (addPairView p))).res ∧
      t.f = addHlFlags mode s.f (add16 (s.pair .hl) (s.pair (addPairView p))).f ∧
      t.pc = s.pc ∧ t.sp = s.sp ∧ t.fault = s.fault ∧ t.mem = s.mem ∧
      ∀ q : Reg8, q ≠ .h → q ≠ .l → t.reg q = s.reg q := by
  refine ⟨_, rfl, (setPair_pair_same s _).2.2, rfl, by simp, by simp, by simp, by simp, fun q h1 h2 => ?_⟩
  simpa using setPair_reg s .hl _ q (by simp [pairCells, h1, h2])

/-- A load through a memory mode (43): the pair of the mode is adjusted after the register is written. -/
theorem load_next (m : Mode) (r : Reg8) (s : State) :
    ∃ t, load m r s = .next t ∧
      t = afterAccess m (effAddr m s).1 ((effAddr m s).2.setReg r (s.readByte (effAddr m s).1)) ∧
      t.f = s.f ∧ t.pc = (effAddr m s).2.pc ∧ t.sp = s.sp ∧ t.fault = s.fault ∧ t.mem = s.mem ∧
      (r ≠ .h → r ≠ .l → t.reg r = s.readByte (effAddr m s).1) ∧
      ∀ q : Reg8, q ≠ r → q ≠ .h → q ≠ .l → t.reg q = s.reg q := by
  refine ⟨_, rfl, by simp, by simp, by simp, by simp, by simp, by simp, fun h1 h2 => ?_, fun q hq h1 h2 => ?_⟩
  · simp [afterAccess_reg _ _ _ _ h1 h2]
  · simp [afterAccess_reg _ _ _ _ h1 h2, State.setReg_reg, hq]

/-- A store through a memory mode (43). -/
theorem store_next (m : Mode) (r : Reg8) (s : State) :
    ∃ t, store m r s = .next t ∧
      t = afterAccess m (effAddr m s).1 ((effAddr m s).2.writeByte (effAddr m s).1 (s.reg r)) ∧
      t.f = s.f ∧ t.pc = (effAddr m s).2.pc ∧ t.sp = s.sp ∧ t.fault = s.fault ∧
      t.mem = s.mem.write (effAddr m s).1.toNat (s.reg r) ∧
      ∀ q : Reg8, q ≠ .h → q ≠ .l → t.reg q = s.reg q := by
  refine ⟨_, rfl, by simp, by simp, by simp, by simp, by simp, by simp, fun q h1 h2 => ?_⟩
  simp [afterAccess_reg _ _ _ _ h1 h2]

/-- LD (HL),n (43 R174). -/
theorem storeImm_next (s : State) :
    ∃ t, storeImm s = .next t ∧ t = (s.writeByte (s.pair .hl) (s.readByte s.pc)).setPc (s.pc + 1#16) :=
  ⟨_, rfl, rfl⟩

/-- LD rr,nn (44 R200, R201). -/
theorem ldPairImm_next (p : LoadPair) (s : State) :
    ∃ t, ldPairImm p s = .next t ∧ t = setLoadPair p (s.readWord s.pc) (s.setPc (s.pc + 2#16)) :=
  ⟨_, rfl, by simp⟩

/-- LD (nn),SP (44 R202). -/
theorem ldIndNNSP_next (s : State) :
    ∃ t, ldIndNNSP s = .next t ∧ t = (s.setPc (s.pc + 2#16)).writeWord (s.readWord s.pc) s.sp :=
  ⟨_, rfl, by simp⟩

/-- PUSH rr (45 R211). -/
theorem push_next (p : Pair) (s : State) :
    ∃ t, push p s = .next t ∧ t = (s.setSp (s.sp - 2#16)).writeWord (s.sp - 2#16) (s.pair p) ∧
      t.sp = s.sp - 2#16 ∧ t.f = s.f ∧ t.pc = s.pc ∧ t.fault = s.fault ∧ ∀ q : Reg8, t.reg q = s.reg q :=
  ⟨_, rfl, by simp⟩

/-- POP rr (45 R213). -/
theorem pop_next (p : Pair) (s : State) :
    ∃ t, pop p s = .next t ∧ t = (s.setSp (s.sp + 2#16)).setPair p (s.readWord s.sp) ∧
      t.sp = s.sp + 2#16 ∧ t.pc = s.pc ∧ t.fault = s.fault ∧ t.mem = s.mem ∧
      ∀ q : Reg8, q ∉ pairCells p → t.reg q = s.reg q :=
  ⟨_, rfl, rfl, by simp, by simp, by simp, by simp, fun q hq => (setPair_reg _ p _ q hq).trans (State.setSp_reg ..)⟩

/-- JP cc,nn (46 R222 to R225). -/
theorem jumpIf_next (cc : Cond) (s : State) :
    jumpIf cc s = .next (s.setPc (if condHolds cc s.f then s.readWord s.pc else s.pc + 2#16)) := by
  unfold jumpIf jump
  split <;> rfl

end Sys2Proof.Machine
end

