-- ==== Sys2Proof/Tests/Slice0.lean ====
section
/-! SUPPORT. The model's own tests: well-formedness refusals, decoding of words written out from the patterns of 30 R87
and 47 R250, single steps against the worked vectors of spec/95_test_vectors.md Part 2, and the witnesses of the statements'
hypotheses. -/

namespace Sys2Proof.Tests

open Sys2Proof.Machine

/-! Well-formedness. -/

/-- An annex instruction is refused when ADMIT_ANNEX is false (47 R230). -/
theorem test_wf_refuses_annex : (Instr.admitted false .and_b, Code.wf false ⟨.and_b, []⟩) = (false, false) := by decide

/-- An operand byte too few or too many is refused (30 R81). -/
theorem test_wf_refuses_operand_width :
    (Code.operandFits ⟨.ld_a_n, []⟩, Code.operandFits ⟨.ld_a_n, [0x00#8, 0x00#8]⟩, Code.wf true ⟨.jp_nn, [0x00#8]⟩,
      Code.wf true ⟨.rlc_b, [0x00#8]⟩) = (false, false, false, false) := by decide

theorem test_wf_accepts :
    Code.wf false ⟨.ld_a_n, [0x77#8]⟩ = true ∧ Code.wf true ⟨.and_b, []⟩ = true ∧
      Code.wf false ⟨.jp_nn, [0x34#8, 0x12#8]⟩ = true := by decide

/-- The default first table with ADD A,B in a second slot. -/
def doubledTable : DecodeTable where
  unprefixed x := if x = 0x00#8 then some .add_a_b else (DecodeTable.standard false).unprefixed x
  cb _ := none

/-- A table that holds one instruction in two slots is refused (30 R84). -/
theorem test_doubled_table_refused : ¬ doubledTable.Legal := fun h =>
  absurd (h false 0x00#8 0x80#8 .add_a_b .add_a_b (by decide) (by decide) rfl) (by decide)

/-- So no parameters are built from it; the spec's own tables are accepted (60 R285). -/
theorem test_params_refuse_doubled_table :
    (Params.make doubledTable .computed).isNone = true ∧
      (Params.make (DecodeTable.standard false) .unaffected).isSome = true := by decide +kernel

/-! Decoding. Each word in binary, as the patterns give it; every instruction of the tables once. -/

/-- Each word decodes to its instruction, in the first table or behind 0xCB. -/
def decodesAll (cb : Bool) (words : List (Byte × Instr)) : Bool :=
  words.all fun p => match decodeBytes tableInForce ((if cb then [0xCB#8] else []) ++ [p.1, 0x12#8, 0x34#8]) with
    | .ok (c, _) => c.instr == p.2
    | .error _ => false

theorem test_decode_ld_rr_nn : decodesAll false
    [(0b00000001#8, .ld_bc_nn), (0b00010001#8, .ld_de_nn), (0b00100001#8, .ld_hl_nn),
     (0b00110001#8, .ld_sp_nn)] =
      true := by decide

theorem test_decode_ld_a : decodesAll false
    [(0b00000010#8, .ld_indBC_a), (0b00001010#8, .ld_a_indBC), (0b00010010#8, .ld_indDE_a),
     (0b00011010#8, .ld_a_indDE), (0b00100010#8, .ld_indHLI_a), (0b00101010#8, .ld_a_indHLI),
     (0b00110010#8, .ld_indHLD_a), (0b00110110#8, .ld_indHL_n), (0b00111010#8, .ld_a_indHLD),
     (0b11100000#8, .ldh_indN_a), (0b11100010#8, .ldh_indC_a), (0b11101010#8, .ld_indNN_a),
     (0b11110000#8, .ldh_a_indN), (0b11110010#8, .ldh_a_indC), (0b11111010#8, .ld_a_indNN)] =
      true := by decide

theorem test_decode_ld_r_n : decodesAll false
    [(0b00000110#8, .ld_b_n), (0b00001110#8, .ld_c_n), (0b00010110#8, .ld_d_n), (0b00011110#8, .ld_e_n),
     (0b00100110#8, .ld_h_n), (0b00101110#8, .ld_l_n), (0b00111110#8, .ld_a_n)] =
      true := by decide

theorem test_decode_rotate_a : decodesAll false
    [(0b00000111#8, .rlca), (0b00001111#8, .rrca), (0b00010111#8, .rla), (0b00011111#8, .rra)] =
      true := by decide

theorem test_decode_sp : decodesAll false
    [(0b00001000#8, .ld_indNN_sp), (0b11111001#8, .ld_sp_hl)] =
      true := by decide

theorem test_decode_add_hl : decodesAll false
    [(0b00001001#8, .add_hl_bc), (0b00011001#8, .add_hl_de), (0b00101001#8, .add_hl_hl)] =
      true := by decide

theorem test_decode_ld_r_r_part0 : decodesAll false
    [(0b01000000#8, .ld_b_b), (0b01000001#8, .ld_b_c), (0b01000010#8, .ld_b_d), (0b01000011#8, .ld_b_e),
     (0b01000100#8, .ld_b_h), (0b01000101#8, .ld_b_l), (0b01000111#8, .ld_b_a), (0b01001000#8, .ld_c_b),
     (0b01001001#8, .ld_c_c), (0b01001010#8, .ld_c_d), (0b01001011#8, .ld_c_e), (0b01001100#8, .ld_c_h),
     (0b01001101#8, .ld_c_l), (0b01001111#8, .ld_c_a), (0b01010000#8, .ld_d_b), (0b01010001#8, .ld_d_c),
     (0b01010010#8, .ld_d_d), (0b01010011#8, .ld_d_e), (0b01010100#8, .ld_d_h), (0b01010101#8, .ld_d_l),
     (0b01010111#8, .ld_d_a), (0b01011000#8, .ld_e_b), (0b01011001#8, .ld_e_c), (0b01011010#8, .ld_e_d),
     (0b01011011#8, .ld_e_e), (0b01011100#8, .ld_e_h), (0b01011101#8, .ld_e_l), (0b01011111#8, .ld_e_a)] =
      true := by decide

theorem test_decode_ld_r_r_part1 : decodesAll false
    [(0b01100000#8, .ld_h_b), (0b01100001#8, .ld_h_c), (0b01100010#8, .ld_h_d), (0b01100011#8, .ld_h_e),
     (0b01100100#8, .ld_h_h), (0b01100101#8, .ld_h_l), (0b01100111#8, .ld_h_a), (0b01101000#8, .ld_l_b),
     (0b01101001#8, .ld_l_c), (0b01101010#8, .ld_l_d), (0b01101011#8, .ld_l_e), (0b01101100#8, .ld_l_h),
     (0b01101101#8, .ld_l_l), (0b01101111#8, .ld_l_a), (0b01111000#8, .ld_a_b), (0b01111001#8, .ld_a_c),
     (0b01111010#8, .ld_a_d), (0b01111011#8, .ld_a_e), (0b01111100#8, .ld_a_h), (0b01111101#8, .ld_a_l),
     (0b01111111#8, .ld_a_a)] =
      true := by decide

theorem test_decode_ld_r_indHL : decodesAll false
    [(0b01000110#8, .ld_b_indHL), (0b01001110#8, .ld_c_indHL), (0b01010110#8, .ld_d_indHL),
     (0b01011110#8, .ld_e_indHL), (0b01100110#8, .ld_h_indHL), (0b01101110#8, .ld_l_indHL),
     (0b01111110#8, .ld_a_indHL)] =
      true := by decide

theorem test_decode_ld_indHL_r : decodesAll false
    [(0b01110000#8, .ld_indHL_b), (0b01110001#8, .ld_indHL_c), (0b01110010#8, .ld_indHL_d),
     (0b01110011#8, .ld_indHL_e), (0b01110100#8, .ld_indHL_h), (0b01110101#8, .ld_indHL_l),
     (0b01110111#8, .ld_indHL_a)] =
      true := by decide

theorem test_decode_add : decodesAll false
    [(0b10000000#8, .add_a_b), (0b10000001#8, .add_a_c), (0b10000010#8, .add_a_d), (0b10000011#8, .add_a_e),
     (0b10000100#8, .add_a_h), (0b10000101#8, .add_a_l), (0b10000110#8, .add_a_indHL),
     (0b10000111#8, .add_a_a), (0b11000110#8, .add_a_n)] =
      true := by decide

theorem test_decode_adc : decodesAll false
    [(0b10001000#8, .adc_a_b), (0b10001001#8, .adc_a_c), (0b10001010#8, .adc_a_d), (0b10001011#8, .adc_a_e),
     (0b10001100#8, .adc_a_h), (0b10001101#8, .adc_a_l), (0b10001110#8, .adc_a_indHL),
     (0b10001111#8, .adc_a_a), (0b11001110#8, .adc_a_n)] =
      true := by decide

theorem test_decode_sub : decodesAll false
    [(0b10010000#8, .sub_b), (0b10010001#8, .sub_c), (0b10010010#8, .sub_d), (0b10010011#8, .sub_e),
     (0b10010100#8, .sub_h), (0b10010101#8, .sub_l), (0b10010110#8, .sub_indHL), (0b10010111#8, .sub_a),
     (0b11010110#8, .sub_n)] =
      true := by decide

theorem test_decode_and : decodesAll false
    [(0b10100000#8, .and_b), (0b10100001#8, .and_c), (0b10100010#8, .and_d), (0b10100011#8, .and_e),
     (0b10100100#8, .and_h), (0b10100101#8, .and_l), (0b10100110#8, .and_indHL), (0b10100111#8, .and_a),
     (0b11100110#8, .and_n)] =
      true := by decide

theorem test_decode_xor : decodesAll false
    [(0b10101000#8, .xor_b), (0b10101001#8, .xor_c), (0b10101010#8, .xor_d), (0b10101011#8, .xor_e),
     (0b10101100#8, .xor_h), (0b10101101#8, .xor_l), (0b10101110#8, .xor_indHL), (0b10101111#8, .xor_a),
     (0b11101110#8, .xor_n)] =
      true := by decide

theorem test_decode_or : decodesAll false
    [(0b10110000#8, .or_b), (0b10110001#8, .or_c), (0b10110010#8, .or_d), (0b10110011#8, .or_e),
     (0b10110100#8, .or_h), (0b10110101#8, .or_l), (0b10110110#8, .or_indHL), (0b10110111#8, .or_a),
     (0b11110110#8, .or_n)] =
      true := by decide

theorem test_decode_pop : decodesAll false
    [(0b11000001#8, .pop_bc), (0b11010001#8, .pop_de), (0b11100001#8, .pop_hl), (0b11110001#8, .pop_af)] =
      true := by decide

theorem test_decode_jump : decodesAll false
    [(0b11000010#8, .jp_nz_nn), (0b11000011#8, .jp_nn), (0b11001010#8, .jp_z_nn), (0b11010010#8, .jp_nc_nn),
     (0b11011010#8, .jp_c_nn)] =
      true := by decide

theorem test_decode_push : decodesAll false
    [(0b11000101#8, .push_bc), (0b11010101#8, .push_de), (0b11100101#8, .push_hl), (0b11110101#8, .push_af)] =
      true := by decide

theorem test_decode_rlc : decodesAll true
    [(0b00000000#8, .rlc_b), (0b00000001#8, .rlc_c), (0b00000010#8, .rlc_d), (0b00000011#8, .rlc_e),
     (0b00000100#8, .rlc_h), (0b00000101#8, .rlc_l), (0b00000110#8, .rlc_indHL), (0b00000111#8, .rlc_a)] =
      true := by decide

theorem test_decode_rrc : decodesAll true
    [(0b00001000#8, .rrc_b), (0b00001001#8, .rrc_c), (0b00001010#8, .rrc_d), (0b00001011#8, .rrc_e),
     (0b00001100#8, .rrc_h), (0b00001101#8, .rrc_l), (0b00001110#8, .rrc_indHL), (0b00001111#8, .rrc_a)] =
      true := by decide

theorem test_decode_rl : decodesAll true
    [(0b00010000#8, .rl_b), (0b00010001#8, .rl_c), (0b00010010#8, .rl_d), (0b00010011#8, .rl_e),
     (0b00010100#8, .rl_h), (0b00010101#8, .rl_l), (0b00010110#8, .rl_indHL), (0b00010111#8, .rl_a)] =
      true := by decide

theorem test_decode_rr : decodesAll true
    [(0b00011000#8, .rr_b), (0b00011001#8, .rr_c), (0b00011010#8, .rr_d), (0b00011011#8, .rr_e),
     (0b00011100#8, .rr_h), (0b00011101#8, .rr_l), (0b00011110#8, .rr_indHL), (0b00011111#8, .rr_a)] =
      true := by decide

theorem test_decode_sla : decodesAll true
    [(0b00100000#8, .sla_b), (0b00100001#8, .sla_c), (0b00100010#8, .sla_d), (0b00100011#8, .sla_e),
     (0b00100100#8, .sla_h), (0b00100101#8, .sla_l), (0b00100110#8, .sla_indHL), (0b00100111#8, .sla_a)] =
      true := by decide

theorem test_decode_sra : decodesAll true
    [(0b00101000#8, .sra_b), (0b00101001#8, .sra_c), (0b00101010#8, .sra_d), (0b00101011#8, .sra_e),
     (0b00101100#8, .sra_h), (0b00101101#8, .sra_l), (0b00101110#8, .sra_indHL), (0b00101111#8, .sra_a)] =
      true := by decide

theorem test_decode_srl : decodesAll true
    [(0b00111000#8, .srl_b), (0b00111001#8, .srl_c), (0b00111010#8, .srl_d), (0b00111011#8, .srl_e),
     (0b00111100#8, .srl_h), (0b00111101#8, .srl_l), (0b00111110#8, .srl_indHL), (0b00111111#8, .srl_a)] =
      true := by decide

/-- Empty slots: an undefined opcode, the LR35902's HALT, and SWAP A and BIT 0,B, which no table holds (30 R90). -/
theorem test_decode_empty_slots :
    (decodeBytes tableInForce [0xD3#8], decodeBytes tableInForce [0x76#8], decodeBytes tableInForce [0xCB#8, 0x37#8],
      decodeBytes tableInForce [0xCB#8, 0x40#8], decodeBytes (DecodeTable.standard false) [0xA0#8],
      decodeBytes (DecodeTable.standard false) [0xCB#8, 0x00#8]) =
    (.error (.emptySlot 0xD3#8 false), .error (.emptySlot 0x76#8 false), .error (.emptySlot 0x37#8 true),
      .error (.emptySlot 0x40#8 true), .error (.emptySlot 0xA0#8 false), .error (.emptySlot 0x00#8 true)) := rfl

/-- The host's numbering: the first byte is bits 7 to 0; operand bits above nbits are 0. -/
theorem test_table_words :
    (decodeTableWord 8 0x3E, decodeTableWord 24 0x1234C3, decodeTableWord 16 0x3FCB, decodeTableWord 8 0x00) =
      (some .ld_a_n, some .jp_nn, some .srl_a, none) := by decide

/-! Single steps, from spec/95_test_vectors.md Part 2. -/

/-- The state with the bytes at `pc` and pc there. -/
def placed (pc : Word) (bytes : List Byte) (s : State) : State := (s.storeBytes pc bytes).setPc pc

/-- The step answers a next state of which `p` holds. -/
def stepsTo (P : Params) (s : State) (p : State → Bool) : Bool :=
  match stepWith P s with
  | .next t => p t
  | .fault _ => false
  | .refused _ => false

/-- The step latches the fault and leaves the rest of the state as it was (60 R283). -/
def latches (P : Params) (s : State) (opcode : Byte) (cb : Bool) : Bool :=
  stepsTo P s (· == { s with fault := some (.unimplementedOpcode opcode cb) })

theorem test_step_add_a_b :
    stepsTo paramsInForce (placed 0x0000#16 [0x80#8] { State.reset with a := 0x3A#8, b := 0xC6#8 })
      (fun t => t.a == 0x00#8 && t.f.toByte == 0xB0#8 && t.pc == 0x0001#16) = true := by decide

theorem test_step_add_a_a :
    stepsTo paramsInForce (placed 0x0000#16 [0x87#8] { State.reset with a := 0x80#8 })
      (fun t => t.a == 0x00#8 && t.f.toByte == 0x90#8 && t.pc == 0x0001#16) = true := by decide

theorem test_step_add_a_indHL :
    stepsTo paramsInForce (placed 0x0000#16 [0x86#8]
      { State.reset with a := 0x0F#8, h := 0xC0#8, l := 0x00#8, mem := [(0xC000, 0x01#8)] })
      (fun t => t.a == 0x10#8 && t.f.toByte == 0x20#8 && t.pc == 0x0001#16) = true := by decide

theorem test_step_add_a_n :
    stepsTo paramsInForce (placed 0x0000#16 [0xC6#8, 0x0F#8] { State.reset with a := 0x0F#8 })
      (fun t => t.a == 0x1E#8 && t.f.toByte == 0x20#8 && t.pc == 0x0002#16) = true := by decide

theorem test_step_adc_a_b :
    stepsTo paramsInForce (placed 0x0000#16 [0x88#8]
      { State.reset with a := 0x0E#8, b := 0x01#8, f := Flags.ofByte 0x10#8 })
      (fun t => t.a == 0x10#8 && t.f.toByte == 0x20#8 && t.pc == 0x0001#16) = true := by decide

theorem test_step_adc_a_a :
    stepsTo paramsInForce (placed 0x0000#16 [0x8F#8] { State.reset with a := 0x80#8, f := Flags.ofByte 0x10#8 })
      (fun t => t.a == 0x01#8 && t.f.toByte == 0x10#8 && t.pc == 0x0001#16) = true := by decide

theorem test_step_adc_a_indHL :
    stepsTo paramsInForce (placed 0x0000#16 [0x8E#8]
      { State.reset with a := 0x00#8, h := 0xC0#8, l := 0x00#8, f := Flags.ofByte 0x10#8, mem := [(0xC000, 0xFF#8)] })
      (fun t => t.a == 0x00#8 && t.f.toByte == 0xB0#8 && t.pc == 0x0001#16) = true := by decide

theorem test_step_adc_a_n :
    stepsTo paramsInForce (placed 0x0000#16 [0xCE#8, 0x0F#8] { State.reset with a := 0x01#8, f := Flags.ofByte 0x10#8 })
      (fun t => t.a == 0x11#8 && t.f.toByte == 0x20#8 && t.pc == 0x0002#16) = true := by decide

theorem test_step_adc_a_n_2 :
    stepsTo paramsInForce (placed 0x0000#16 [0xCE#8, 0x0F#8] { State.reset with a := 0x01#8, f := Flags.ofByte 0xE0#8 })
      (fun t => t.a == 0x10#8 && t.f.toByte == 0x20#8 && t.pc == 0x0002#16) = true := by decide

theorem test_step_sub_b :
    stepsTo paramsInForce (placed 0x0000#16 [0x90#8] { State.reset with a := 0x3E#8, b := 0x3E#8 })
      (fun t => t.a == 0x00#8 && t.f.toByte == 0xC0#8 && t.pc == 0x0001#16) = true := by decide

theorem test_step_sub_a :
    stepsTo paramsInForce (placed 0x0000#16 [0x97#8] { State.reset with a := 0x5C#8 })
      (fun t => t.a == 0x00#8 && t.f.toByte == 0xC0#8 && t.pc == 0x0001#16) = true := by decide

theorem test_step_sub_indHL :
    stepsTo paramsInForce (placed 0x0000#16 [0x96#8]
      { State.reset with a := 0x3E#8, h := 0xC0#8, l := 0x00#8, mem := [(0xC000, 0x40#8)] })
      (fun t => t.a == 0xFE#8 && t.f.toByte == 0x50#8 && t.pc == 0x0001#16) = true := by decide

theorem test_step_sub_n :
    stepsTo paramsInForce (placed 0x0000#16 [0xD6#8, 0x0F#8] { State.reset with a := 0x3E#8 })
      (fun t => t.a == 0x2F#8 && t.f.toByte == 0x60#8 && t.pc == 0x0002#16) = true := by decide

theorem test_step_sub_n_2 :
    stepsTo paramsInForce (placed 0x0000#16 [0xD6#8, 0x01#8] { State.reset with a := 0x00#8, f := Flags.ofByte 0x10#8 })
      (fun t => t.a == 0xFF#8 && t.f.toByte == 0x70#8 && t.pc == 0x0002#16) = true := by decide

theorem test_step_add_hl_bc :
    stepsTo paramsInForce (placed 0x0000#16 [0x09#8]
      { State.reset with h := 0x8A#8, l := 0x23#8, b := 0x06#8, c := 0x05#8 })
      (fun t => t.pair .hl == 0x9028#16 && t.f.toByte == 0x20#8 && t.pc == 0x0001#16) = true := by decide

theorem test_step_add_hl_de :
    stepsTo paramsInForce (placed 0x0000#16 [0x19#8]
      { State.reset with h := 0x0F#8, l := 0xFF#8, d := 0x00#8, e := 0x01#8, f := Flags.ofByte 0xC0#8 })
      (fun t => t.pair .hl == 0x1000#16 && t.f.toByte == 0x20#8) = true := by decide

theorem test_step_add_hl_hl :
    stepsTo paramsInForce (placed 0x0000#16 [0x29#8]
      { State.reset with h := 0x80#8, l := 0x00#8, f := Flags.ofByte 0x00#8 })
      (fun t => t.pair .hl == 0x0000#16 && t.f.toByte == 0x90#8) = true := by decide

theorem test_step_add_hl_hl_2 :
    stepsTo paramsInForce (placed 0x0000#16 [0x29#8]
      { State.reset with h := 0x80#8, l := 0x00#8, f := Flags.ofByte 0x80#8 })
      (fun t => t.pair .hl == 0x0000#16 && t.f.toByte == 0x90#8) = true := by decide

theorem test_step_add_hl_bc_2 :
    stepsTo paramsInForce (placed 0x0000#16 [0x09#8]
      { State.reset with h := 0x00#8, l := 0xFF#8, b := 0x00#8, c := 0x01#8 })
      (fun t => t.pair .hl == 0x0100#16 && t.f.toByte == 0x00#8) = true := by decide

theorem test_step_empty_slot_39 :
    latches paramsDefault (placed 0x0000#16 [0x39#8] { State.reset with h := 0x00#8, l := 0x01#8, sp := 0x0002#16 }) 0x39#8 false = true := by decide

theorem test_step_ld_b_c :
    stepsTo paramsInForce (placed 0x0000#16 [0x41#8] { State.reset with c := 0x5A#8, f := Flags.ofByte 0xF0#8 })
      (fun t => t.b == 0x5A#8 && t.c == 0x5A#8 && t.f.toByte == 0xF0#8 && t.pc == 0x0001#16) = true := by decide

theorem test_step_ld_a_a :
    stepsTo paramsInForce (placed 0x0000#16 [0x7F#8] { State.reset with a := 0x77#8 })
      (fun t => t.a == 0x77#8 && t.pc == 0x0001#16) = true := by decide

theorem test_step_ld_h_l :
    stepsTo paramsInForce (placed 0x0000#16 [0x65#8] { State.reset with h := 0x12#8, l := 0xAB#8 })
      (fun t => t.h == 0xAB#8 && t.l == 0xAB#8 && t.pc == 0x0001#16) = true := by decide

theorem test_step_ld_e_n :
    stepsTo paramsInForce (placed 0x0000#16 [0x1E#8, 0x9C#8] State.reset)
      (fun t => t.e == 0x9C#8 && t.pc == 0x0002#16) = true := by decide

theorem test_step_ld_d_indHL :
    stepsTo paramsInForce (placed 0x0000#16 [0x56#8]
      { State.reset with h := 0xC0#8, l := 0x00#8, mem := [(0xC000, 0x42#8)] })
      (fun t => t.d == 0x42#8 && t.pc == 0x0001#16) = true := by decide

theorem test_step_ld_h_indHL :
    stepsTo paramsInForce (placed 0x0000#16 [0x66#8]
      { State.reset with h := 0xC0#8, l := 0x00#8, mem := [(0xC000, 0x42#8)] })
      (fun t => t.h == 0x42#8 && t.l == 0x00#8 && t.pc == 0x0001#16) = true := by decide

theorem test_step_ld_l_indHL :
    stepsTo paramsInForce (placed 0x0000#16 [0x6E#8]
      { State.reset with h := 0xC0#8, l := 0x00#8, mem := [(0xC000, 0x42#8)] })
      (fun t => t.h == 0xC0#8 && t.l == 0x42#8 && t.pc == 0x0001#16) = true := by decide

theorem test_step_ld_indHL_b :
    stepsTo paramsInForce (placed 0x0000#16 [0x70#8] { State.reset with b := 0x99#8, h := 0xC0#8, l := 0x00#8 })
      (fun t => t.readByte 0xC000#16 == 0x99#8 && t.pc == 0x0001#16) = true := by decide

theorem test_step_ld_indHL_h :
    stepsTo paramsInForce (placed 0x0000#16 [0x74#8] { State.reset with h := 0xC0#8, l := 0xDE#8 })
      (fun t => t.readByte 0xC0DE#16 == 0xC0#8 && t.pc == 0x0001#16) = true := by decide

theorem test_step_ld_indHL_l :
    stepsTo paramsInForce (placed 0x0000#16 [0x75#8] { State.reset with h := 0xC0#8, l := 0xDE#8 })
      (fun t => t.readByte 0xC0DE#16 == 0xDE#8 && t.pc == 0x0001#16) = true := by decide

theorem test_step_ld_indHL_n :
    stepsTo paramsInForce (placed 0x0000#16 [0x36#8, 0x5A#8] { State.reset with h := 0xC0#8, l := 0x00#8 })
      (fun t => t.readByte 0xC000#16 == 0x5A#8 && t.pc == 0x0002#16) = true := by decide

theorem test_step_ld_a_indBC :
    stepsTo paramsInForce (placed 0x0000#16 [0x0A#8]
      { State.reset with b := 0xC1#8, c := 0x23#8, mem := [(0xC123, 0x77#8)] })
      (fun t => t.a == 0x77#8 && t.pc == 0x0001#16) = true := by decide

theorem test_step_ld_a_indDE :
    stepsTo paramsInForce (placed 0x0000#16 [0x1A#8]
      { State.reset with d := 0xC1#8, e := 0x24#8, mem := [(0xC124, 0x78#8)] })
      (fun t => t.a == 0x78#8 && t.pc == 0x0001#16) = true := by decide

theorem test_step_ld_indBC_a :
    stepsTo paramsInForce (placed 0x0000#16 [0x02#8] { State.reset with a := 0xAB#8, b := 0xC2#8, c := 0x00#8 })
      (fun t => t.readByte 0xC200#16 == 0xAB#8 && t.pc == 0x0001#16) = true := by decide

theorem test_step_ld_indDE_a :
    stepsTo paramsInForce (placed 0x0000#16 [0x12#8] { State.reset with a := 0xCD#8, d := 0xC2#8, e := 0x01#8 })
      (fun t => t.readByte 0xC201#16 == 0xCD#8 && t.pc == 0x0001#16) = true := by decide

theorem test_step_ld_a_indNN :
    stepsTo paramsInForce (placed 0x0000#16 [0xFA#8, 0x34#8, 0xC2#8] { State.reset with mem := [(0xC234, 0x5C#8)] })
      (fun t => t.a == 0x5C#8 && t.pc == 0x0003#16) = true := by decide

theorem test_step_ld_indNN_a :
    stepsTo paramsInForce (placed 0x0000#16 [0xEA#8, 0x34#8, 0xC2#8] { State.reset with a := 0xE7#8 })
      (fun t => t.readByte 0xC234#16 == 0xE7#8 && t.pc == 0x0003#16) = true := by decide

theorem test_step_ldh_a_indC :
    stepsTo paramsInForce (placed 0x0000#16 [0xF2#8] { State.reset with c := 0x80#8, mem := [(0xFF80, 0x3D#8)] })
      (fun t => t.a == 0x3D#8 && t.pc == 0x0001#16) = true := by decide

theorem test_step_ldh_a_indC_2 :
    stepsTo paramsInForce (placed 0x0000#16 [0xF2#8] { State.reset with c := 0xFF#8, mem := [(0xFFFF, 0x1F#8)] })
      (fun t => t.a == 0x1F#8 && t.pc == 0x0001#16) = true := by decide

theorem test_step_ldh_indC_a :
    stepsTo paramsInForce (placed 0x0000#16 [0xE2#8] { State.reset with c := 0x00#8, a := 0x91#8 })
      (fun t => t.readByte 0xFF00#16 == 0x91#8 && t.pc == 0x0001#16) = true := by decide

theorem test_step_ldh_a_indN :
    stepsTo paramsInForce (placed 0x0000#16 [0xF0#8, 0x44#8] { State.reset with mem := [(0xFF44, 0x90#8)] })
      (fun t => t.a == 0x90#8 && t.pc == 0x0002#16) = true := by decide

theorem test_step_ldh_indN_a :
    stepsTo paramsInForce (placed 0x0000#16 [0xE0#8, 0xFF#8] { State.reset with a := 0x1F#8 })
      (fun t => t.readByte 0xFFFF#16 == 0x1F#8 && t.pc == 0x0002#16) = true := by decide

theorem test_step_ld_a_indHLI :
    stepsTo paramsInForce (placed 0x0000#16 [0x2A#8]
      { State.reset with h := 0xFF#8, l := 0xFF#8, mem := [(0xFFFF, 0xA5#8)] })
      (fun t => t.a == 0xA5#8 && t.pair .hl == 0x0000#16 && t.pc == 0x0001#16) = true := by decide

theorem test_step_ld_a_indHLD :
    stepsTo paramsInForce (placed 0x0100#16 [0x3A#8]
      { State.reset with h := 0x00#8, l := 0x00#8, mem := [(0x0000, 0x99#8)] })
      (fun t => t.a == 0x99#8 && t.pair .hl == 0xFFFF#16 && t.pc == 0x0101#16) = true := by decide

theorem test_step_ld_a_indHLI_2 :
    stepsTo paramsInForce (placed 0x0000#16 [0x2A#8]
      { State.reset with h := 0xC0#8, l := 0xFF#8, mem := [(0xC0FF, 0x66#8)] })
      (fun t => t.a == 0x66#8 && t.pair .hl == 0xC100#16 && t.pc == 0x0001#16) = true := by decide

theorem test_step_ld_a_indHLD_2 :
    stepsTo paramsInForce (placed 0x0000#16 [0x3A#8]
      { State.reset with h := 0xC1#8, l := 0x00#8, mem := [(0xC100, 0x67#8)] })
      (fun t => t.a == 0x67#8 && t.pair .hl == 0xC0FF#16 && t.pc == 0x0001#16) = true := by decide

theorem test_step_ld_indHLI_a :
    stepsTo paramsInForce (placed 0x0000#16 [0x22#8] { State.reset with h := 0xFF#8, l := 0xFF#8, a := 0x5A#8 })
      (fun t => t.readByte 0xFFFF#16 == 0x5A#8 && t.pair .hl == 0x0000#16 && t.pc == 0x0001#16) = true := by decide

theorem test_step_ld_indHLD_a :
    stepsTo paramsInForce (placed 0x0100#16 [0x32#8] { State.reset with h := 0x00#8, l := 0x00#8, a := 0x5A#8 })
      (fun t => t.readByte 0x0000#16 == 0x5A#8 && t.pair .hl == 0xFFFF#16 && t.pc == 0x0101#16) = true := by decide

theorem test_step_ld_indHLD_a_2 :
    stepsTo paramsInForce (placed 0x0000#16 [0x32#8] { State.reset with h := 0xC0#8, l := 0x00#8, a := 0x5B#8 })
      (fun t => t.readByte 0xC000#16 == 0x5B#8 && t.pair .hl == 0xBFFF#16 && t.pc == 0x0001#16) = true := by decide

theorem test_step_empty_slot_76 :
    latches paramsDefault (placed 0x0000#16 [0x76#8] State.reset) 0x76#8 false = true := by decide

theorem test_step_ld_bc_nn :
    stepsTo paramsInForce (placed 0x0000#16 [0x01#8, 0x34#8, 0x12#8] State.reset)
      (fun t => t.b == 0x12#8 && t.c == 0x34#8 && t.pc == 0x0003#16) = true := by decide

theorem test_step_ld_de_nn :
    stepsTo paramsInForce (placed 0x0000#16 [0x11#8, 0xCD#8, 0xAB#8] State.reset)
      (fun t => t.d == 0xAB#8 && t.e == 0xCD#8 && t.pc == 0x0003#16) = true := by decide

theorem test_step_ld_hl_nn :
    stepsTo paramsInForce (placed 0x0000#16 [0x21#8, 0xFF#8, 0xFF#8] State.reset)
      (fun t => t.h == 0xFF#8 && t.l == 0xFF#8 && t.pc == 0x0003#16) = true := by decide

theorem test_step_ld_sp_nn :
    stepsTo paramsInForce (placed 0x0000#16 [0x31#8, 0xFE#8, 0xFF#8] State.reset)
      (fun t => t.sp == 0xFFFE#16 && t.pc == 0x0003#16) = true := by decide

theorem test_step_ld_indNN_sp :
    stepsTo paramsInForce (placed 0x0000#16 [0x08#8, 0x00#8, 0xC1#8] { State.reset with sp := 0xBEEF#16 })
      (fun t => t.readByte 0xC100#16 == 0xEF#8 && t.readByte 0xC101#16 == 0xBE#8 && t.pc == 0x0003#16) = true := by decide

theorem test_step_ld_indNN_sp_2 :
    stepsTo paramsInForce (placed 0x0100#16 [0x08#8, 0xFF#8, 0xFF#8] { State.reset with sp := 0x1234#16 })
      (fun t => t.readByte 0xFFFF#16 == 0x34#8 && t.readByte 0x0000#16 == 0x12#8 && t.pc == 0x0103#16) = true := by decide

theorem test_step_ld_sp_hl :
    stepsTo paramsInForce (placed 0x0000#16 [0xF9#8]
      { State.reset with h := 0xC0#8, l := 0xDE#8, f := Flags.ofByte 0xF0#8 })
      (fun t => t.sp == 0xC0DE#16 && t.f.toByte == 0xF0#8 && t.pc == 0x0001#16) = true := by decide

theorem test_step_ld_bc_nn_2 :
    stepsTo paramsInForce (placed 0xFFFE#16 [0x01#8, 0x34#8, 0x12#8] State.reset)
      (fun t => t.b == 0x12#8 && t.c == 0x34#8 && t.pc == 0x0001#16) = true := by decide

theorem test_step_push_bc :
    stepsTo paramsInForce (placed 0x0100#16 [0xC5#8] { State.reset with sp := 0x0001#16, b := 0x12#8, c := 0x34#8 })
      (fun t => t.sp == 0xFFFF#16 && t.readByte 0xFFFF#16 == 0x34#8 && t.readByte 0x0000#16 == 0x12#8 && t.pc == 0x0101#16) =
      true := by decide

theorem test_step_push_de :
    stepsTo paramsInForce (placed 0x0000#16 [0xD5#8] { State.reset with sp := 0x0000#16, d := 0xAB#8, e := 0xCD#8 })
      (fun t => t.sp == 0xFFFE#16 && t.readByte 0xFFFE#16 == 0xCD#8 && t.readByte 0xFFFF#16 == 0xAB#8 && t.pc == 0x0001#16) =
      true := by decide

theorem test_step_push_hl :
    stepsTo paramsInForce (placed 0x0000#16 [0xE5#8] { State.reset with sp := 0xD000#16, h := 0xD0#8, l := 0x00#8 })
      (fun t => t.sp == 0xCFFE#16 && t.readByte 0xCFFE#16 == 0x00#8 && t.readByte 0xCFFF#16 == 0xD0#8 && t.pc == 0x0001#16) =
      true := by decide

theorem test_step_push_af :
    stepsTo paramsInForce (placed 0x0000#16 [0xF5#8]
      { State.reset with a := 0x12#8, f := Flags.ofByte 0xB0#8, sp := 0xD000#16 })
      (fun t => t.sp == 0xCFFE#16 && t.readByte 0xCFFE#16 == 0xB0#8 && t.readByte 0xCFFF#16 == 0x12#8 && t.pc == 0x0001#16) =
      true := by decide

theorem test_step_pop_bc :
    stepsTo paramsInForce (placed 0x0100#16 [0xC1#8]
      { State.reset with sp := 0xFFFF#16, mem := [(0x0000, 0x12#8), (0xFFFF, 0x34#8)] })
      (fun t => t.b == 0x12#8 && t.c == 0x34#8 && t.sp == 0x0001#16 && t.pc == 0x0101#16) = true := by decide

theorem test_step_pop_hl :
    stepsTo paramsInForce (placed 0x0000#16 [0xE1#8]
      { State.reset with sp := 0xFFFE#16, mem := [(0xFFFE, 0xCD#8), (0xFFFF, 0xAB#8)] })
      (fun t => t.h == 0xAB#8 && t.l == 0xCD#8 && t.sp == 0x0000#16 && t.pc == 0x0001#16) = true := by decide

theorem test_step_pop_af :
    stepsTo paramsInForce (placed 0x0000#16 [0xF1#8]
      { State.reset with sp := 0xCFFE#16, mem := [(0xCFFE, 0xFF#8), (0xCFFF, 0x12#8)] })
      (fun t => t.a == 0x12#8 && t.f.toByte == 0xF0#8 && t.sp == 0xD000#16 && t.pc == 0x0001#16) = true := by decide

theorem test_step_pop_af_2 :
    stepsTo paramsInForce (placed 0x0000#16 [0xF1#8]
      { State.reset with sp := 0xCFFE#16, f := Flags.ofByte 0xF0#8, mem := [(0xCFFE, 0x0F#8), (0xCFFF, 0x34#8)] })
      (fun t => t.a == 0x34#8 && t.f.toByte == 0x00#8 && t.sp == 0xD000#16) = true := by decide

theorem test_step_jp_nn :
    stepsTo paramsInForce (placed 0xFFFE#16 [0xC3#8, 0x34#8, 0x12#8] State.reset)
      (fun t => t.pc == 0x1234#16) = true := by decide

theorem test_step_jp_nn_2 :
    stepsTo paramsInForce (placed 0xFFFF#16 [0xC3#8, 0x34#8, 0x12#8] State.reset)
      (fun t => t.pc == 0x1234#16) = true := by decide

theorem test_step_jp_z_nn :
    stepsTo paramsInForce (placed 0xFFFE#16 [0xCA#8, 0x34#8, 0x12#8] { State.reset with f := Flags.ofByte 0x00#8 })
      (fun t => t.pc == 0x0001#16) = true := by decide

theorem test_step_ld_a_n :
    stepsTo paramsInForce (placed 0xFFFF#16 [0x3E#8, 0x77#8] State.reset)
      (fun t => t.a == 0x77#8 && t.pc == 0x0001#16) = true := by decide

theorem test_step_ld_b_c_2 :
    stepsTo paramsInForce (placed 0xFFFF#16 [0x41#8] { State.reset with c := 0x09#8 })
      (fun t => t.b == 0x09#8 && t.pc == 0x0000#16) = true := by decide

theorem test_step_empty_slot_00 :
    latches paramsDefault (placed 0x0150#16 [0x00#8]
      { State.reset with a := 0xAA#8, f := Flags.ofByte 0x50#8, sp := 0xD000#16 }) 0x00#8 false = true := by decide

theorem test_step_empty_slot_cb_00 :
    latches paramsDefault (placed 0x0200#16 [0xCB#8, 0x00#8] { State.reset with b := 0x85#8 }) 0x00#8 true = true := by decide

theorem test_step_empty_slot_cb_cb :
    latches paramsDefault (placed 0x0200#16 [0xCB#8, 0xCB#8] State.reset) 0xCB#8 true = true := by decide

theorem test_step_empty_slot_cb_11 :
    latches paramsDefault (placed 0xFFFF#16 [0xCB#8, 0x11#8] State.reset) 0x11#8 true = true := by decide

theorem test_step_empty_slot_ff :
    latches paramsDefault (placed 0x0000#16 [0xFF#8] { State.reset with sp := 0xD000#16 }) 0xFF#8 false = true := by decide

theorem test_step_empty_slot_d3 :
    latches paramsDefault (placed 0x0000#16 [0xD3#8] State.reset) 0xD3#8 false = true := by decide

theorem test_step_empty_slot_98 :
    latches paramsDefault (placed 0x0000#16 [0x98#8] State.reset) 0x98#8 false = true := by decide

theorem test_step_empty_slot_b8 :
    latches paramsDefault (placed 0x0000#16 [0xB8#8] State.reset) 0xB8#8 false = true := by decide

theorem test_step_empty_slot_04 :
    latches paramsDefault (placed 0x0000#16 [0x04#8] State.reset) 0x04#8 false = true := by decide

theorem test_step_empty_slot_18_05 :
    latches paramsDefault (placed 0x0000#16 [0x18#8, 0x05#8] State.reset) 0x18#8 false = true := by decide

theorem test_step_empty_slot_cd_00_10 :
    latches paramsDefault (placed 0x0000#16 [0xCD#8, 0x00#8, 0x10#8] { State.reset with sp := 0xD000#16 }) 0xCD#8 false = true := by decide

theorem test_step_empty_slot_c9 :
    latches paramsDefault (placed 0x0000#16 [0xC9#8] { State.reset with sp := 0xD000#16 }) 0xC9#8 false = true := by decide

theorem test_step_empty_slot_a0 :
    latches paramsDefault (placed 0x0000#16 [0xA0#8] State.reset) 0xA0#8 false = true := by decide

theorem test_step_and_b :
    stepsTo paramsInForce (placed 0x0000#16 [0xA0#8]
      { State.reset with a := 0x5A#8, b := 0x3F#8, f := Flags.ofByte 0x50#8 })
      (fun t => t.a == 0x1A#8 && t.f.toByte == 0x20#8 && t.pc == 0x0001#16) = true := by decide

theorem test_step_and_a :
    stepsTo paramsInForce (placed 0x0000#16 [0xA7#8] { State.reset with a := 0x00#8 })
      (fun t => t.a == 0x00#8 && t.f.toByte == 0xA0#8) = true := by decide

theorem test_step_and_indHL :
    stepsTo paramsInForce (placed 0x0000#16 [0xA6#8]
      { State.reset with a := 0x5A#8, h := 0xC0#8, l := 0x00#8, mem := [(0xC000, 0x38#8)] })
      (fun t => t.a == 0x18#8 && t.f.toByte == 0x20#8) = true := by decide

theorem test_step_and_n :
    stepsTo paramsInForce (placed 0x0000#16 [0xE6#8, 0x00#8] { State.reset with a := 0x5A#8 })
      (fun t => t.a == 0x00#8 && t.f.toByte == 0xA0#8 && t.pc == 0x0002#16) = true := by decide

theorem test_step_xor_a :
    stepsTo paramsInForce (placed 0x0000#16 [0xAF#8] { State.reset with a := 0xFF#8, f := Flags.ofByte 0xF0#8 })
      (fun t => t.a == 0x00#8 && t.f.toByte == 0x80#8) = true := by decide

theorem test_step_xor_n :
    stepsTo paramsInForce (placed 0x0000#16 [0xEE#8, 0x0F#8] { State.reset with a := 0xFF#8 })
      (fun t => t.a == 0xF0#8 && t.f.toByte == 0x00#8 && t.pc == 0x0002#16) = true := by decide

theorem test_step_xor_indHL :
    stepsTo paramsInForce (placed 0x0000#16 [0xAE#8]
      { State.reset with a := 0xFF#8, h := 0xC0#8, l := 0x00#8, mem := [(0xC000, 0x8A#8)] })
      (fun t => t.a == 0x75#8 && t.f.toByte == 0x00#8) = true := by decide

theorem test_step_or_b :
    stepsTo paramsInForce (placed 0x0000#16 [0xB0#8]
      { State.reset with a := 0x00#8, b := 0x00#8, f := Flags.ofByte 0x70#8 })
      (fun t => t.a == 0x00#8 && t.f.toByte == 0x80#8) = true := by decide

theorem test_step_or_n :
    stepsTo paramsInForce (placed 0x0000#16 [0xF6#8, 0x03#8] { State.reset with a := 0x5A#8 })
      (fun t => t.a == 0x5B#8 && t.f.toByte == 0x00#8 && t.pc == 0x0002#16) = true := by decide

theorem test_step_or_indHL :
    stepsTo paramsInForce (placed 0x0000#16 [0xB6#8]
      { State.reset with a := 0x5A#8, h := 0xC0#8, l := 0x00#8, mem := [(0xC000, 0x0F#8)] })
      (fun t => t.a == 0x5F#8 && t.f.toByte == 0x00#8) = true := by decide

theorem test_step_rlca :
    stepsTo paramsInForce (placed 0x0000#16 [0x07#8] { State.reset with a := 0x85#8 })
      (fun t => t.a == 0x0B#8 && t.f.toByte == 0x10#8) = true := by decide

theorem test_step_rlca_2 :
    stepsTo paramsInForce (placed 0x0000#16 [0x07#8] { State.reset with a := 0x00#8, f := Flags.ofByte 0xF0#8 })
      (fun t => t.a == 0x00#8 && t.f.toByte == 0x00#8) = true := by decide

theorem test_step_rrca :
    stepsTo paramsInForce (placed 0x0000#16 [0x0F#8] { State.reset with a := 0x3B#8 })
      (fun t => t.a == 0x9D#8 && t.f.toByte == 0x10#8) = true := by decide

theorem test_step_rla :
    stepsTo paramsInForce (placed 0x0000#16 [0x17#8] { State.reset with a := 0x95#8, f := Flags.ofByte 0x10#8 })
      (fun t => t.a == 0x2B#8 && t.f.toByte == 0x10#8) = true := by decide

theorem test_step_rla_2 :
    stepsTo paramsInForce (placed 0x0000#16 [0x17#8] { State.reset with a := 0x80#8, f := Flags.ofByte 0x00#8 })
      (fun t => t.a == 0x00#8 && t.f.toByte == 0x10#8) = true := by decide

theorem test_step_rra :
    stepsTo paramsInForce (placed 0x0000#16 [0x1F#8] { State.reset with a := 0x81#8, f := Flags.ofByte 0x00#8 })
      (fun t => t.a == 0x40#8 && t.f.toByte == 0x10#8) = true := by decide

theorem test_step_rra_2 :
    stepsTo paramsInForce (placed 0x0000#16 [0x1F#8] { State.reset with a := 0x01#8, f := Flags.ofByte 0x00#8 })
      (fun t => t.a == 0x00#8 && t.f.toByte == 0x10#8) = true := by decide

theorem test_step_rlc_b :
    stepsTo paramsInForce (placed 0x0000#16 [0xCB#8, 0x00#8] { State.reset with b := 0x85#8 })
      (fun t => t.b == 0x0B#8 && t.f.toByte == 0x10#8 && t.pc == 0x0002#16) = true := by decide

theorem test_step_rlc_indHL :
    stepsTo paramsInForce (placed 0x0000#16 [0xCB#8, 0x06#8]
      { State.reset with h := 0xC0#8, l := 0x00#8, f := Flags.ofByte 0x10#8 })
      (fun t => t.readByte 0xC000#16 == 0x00#8 && t.f.toByte == 0x80#8) = true := by decide

theorem test_step_rrc_c :
    stepsTo paramsInForce (placed 0x0000#16 [0xCB#8, 0x09#8] { State.reset with c := 0x01#8 })
      (fun t => t.c == 0x80#8 && t.f.toByte == 0x10#8) = true := by decide

theorem test_step_rl_d :
    stepsTo paramsInForce (placed 0x0000#16 [0xCB#8, 0x12#8] { State.reset with d := 0x80#8, f := Flags.ofByte 0x00#8 })
      (fun t => t.d == 0x00#8 && t.f.toByte == 0x90#8) = true := by decide

theorem test_step_rl_indHL :
    stepsTo paramsInForce (placed 0x0000#16 [0xCB#8, 0x16#8]
      { State.reset with h := 0xC0#8, l := 0x00#8, f := Flags.ofByte 0x10#8, mem := [(0xC000, 0x11#8)] })
      (fun t => t.readByte 0xC000#16 == 0x23#8 && t.f.toByte == 0x00#8) = true := by decide

theorem test_step_rr_e :
    stepsTo paramsInForce (placed 0x0000#16 [0xCB#8, 0x1B#8] { State.reset with e := 0x01#8, f := Flags.ofByte 0x00#8 })
      (fun t => t.e == 0x00#8 && t.f.toByte == 0x90#8) = true := by decide

theorem test_step_rr_a :
    stepsTo paramsInForce (placed 0x0000#16 [0xCB#8, 0x1F#8] { State.reset with a := 0x8A#8, f := Flags.ofByte 0x10#8 })
      (fun t => t.a == 0xC5#8 && t.f.toByte == 0x00#8) = true := by decide

theorem test_step_sla_h :
    stepsTo paramsInForce (placed 0x0000#16 [0xCB#8, 0x24#8] { State.reset with h := 0x80#8 })
      (fun t => t.h == 0x00#8 && t.f.toByte == 0x90#8) = true := by decide

theorem test_step_sla_indHL :
    stepsTo paramsInForce (placed 0x0000#16 [0xCB#8, 0x26#8]
      { State.reset with h := 0xC0#8, l := 0x00#8, mem := [(0xC000, 0xFF#8)] })
      (fun t => t.readByte 0xC000#16 == 0xFE#8 && t.f.toByte == 0x10#8) = true := by decide

theorem test_step_sra_l :
    stepsTo paramsInForce (placed 0x0000#16 [0xCB#8, 0x2D#8] { State.reset with l := 0x8A#8 })
      (fun t => t.l == 0xC5#8 && t.f.toByte == 0x00#8) = true := by decide

theorem test_step_sra_a :
    stepsTo paramsInForce (placed 0x0000#16 [0xCB#8, 0x2F#8] { State.reset with a := 0x01#8 })
      (fun t => t.a == 0x00#8 && t.f.toByte == 0x90#8) = true := by decide

theorem test_step_srl_a :
    stepsTo paramsInForce (placed 0x0000#16 [0xCB#8, 0x3F#8] { State.reset with a := 0x01#8 })
      (fun t => t.a == 0x00#8 && t.f.toByte == 0x90#8) = true := by decide

theorem test_step_srl_indHL :
    stepsTo paramsInForce (placed 0x0000#16 [0xCB#8, 0x3E#8]
      { State.reset with h := 0xC0#8, l := 0x00#8, mem := [(0xC000, 0xFF#8)] })
      (fun t => t.readByte 0xC000#16 == 0x7F#8 && t.f.toByte == 0x10#8) = true := by decide

theorem test_step_empty_slot_cb_37 :
    latches paramsInForce (placed 0x0000#16 [0xCB#8, 0x37#8] State.reset) 0x37#8 true = true := by decide

theorem test_step_empty_slot_cb_40 :
    latches paramsInForce (placed 0x0000#16 [0xCB#8, 0x40#8] State.reset) 0x40#8 true = true := by decide

theorem test_step_jp_nz_nn :
    stepsTo paramsInForce (placed 0x1233#16 [0xC2#8, 0x56#8, 0x78#8] { State.reset with f := Flags.ofByte 0x80#8 })
      (fun t => t.pc == 0x1236#16 && t.f.toByte == 0x80#8) = true := by decide

theorem test_step_jp_nz_nn_2 :
    stepsTo paramsInForce (placed 0x1233#16 [0xC2#8, 0x56#8, 0x78#8] { State.reset with f := Flags.ofByte 0x00#8 })
      (fun t => t.pc == 0x7856#16 && t.f.toByte == 0x00#8) = true := by decide

theorem test_step_jp_z_nn_2 :
    stepsTo paramsInForce (placed 0x1233#16 [0xCA#8, 0x56#8, 0x78#8] { State.reset with f := Flags.ofByte 0x00#8 })
      (fun t => t.pc == 0x1236#16 && t.f.toByte == 0x00#8) = true := by decide

theorem test_step_jp_nc_nn :
    stepsTo paramsInForce (placed 0x1233#16 [0xD2#8, 0x56#8, 0x78#8] { State.reset with f := Flags.ofByte 0x90#8 })
      (fun t => t.pc == 0x1236#16 && t.f.toByte == 0x90#8) = true := by decide

theorem test_step_jp_nc_nn_2 :
    stepsTo paramsInForce (placed 0x1233#16 [0xD2#8, 0x56#8, 0x78#8] { State.reset with f := Flags.ofByte 0x60#8 })
      (fun t => t.pc == 0x7856#16 && t.f.toByte == 0x60#8) = true := by decide

theorem test_step_jp_c_nn :
    stepsTo paramsInForce (placed 0x1233#16 [0xDA#8, 0x56#8, 0x78#8] { State.reset with f := Flags.ofByte 0x60#8 })
      (fun t => t.pc == 0x1236#16 && t.f.toByte == 0x60#8) = true := by decide

theorem test_step_jp_c_nn_2 :
    stepsTo paramsInForce (placed 0x1233#16 [0xDA#8, 0x56#8, 0x78#8] { State.reset with f := Flags.ofByte 0x10#8 })
      (fun t => t.pc == 0x7856#16 && t.f.toByte == 0x10#8) = true := by decide

/-- A step under `unaffected` keeps z (42 R164, vectors 19 with HL=0FFF DE=0001 F=C0 and 29 with HL=8000 F=00). -/
theorem test_step_add_hl_unaffected :
    (stepsTo (Params.standard false .unaffected)
        (placed 0x0000#16 [0x19#8]
          { State.reset with h := 0x0F#8, l := 0xFF#8, e := 0x01#8, f := Flags.ofByte 0xC0#8 })
        (fun t => t.pair .hl == 0x1000#16 && t.f.toByte == 0xA0#8) &&
      stepsTo (Params.standard false .unaffected) (placed 0x0000#16 [0x29#8] { State.reset with h := 0x80#8 })
        (fun t => t.pair .hl == 0x0000#16 && t.f.toByte == 0x10#8)) = true := by decide

/-- A jump to itself stays there (40 R122). -/
theorem test_jump_to_itself :
    stepsTo paramsInForce (placed 0x000A#16 [0xC3#8, 0x0A#8, 0x00#8] State.reset) (fun t => t.pc == 0x000A#16) = true := by
  decide

/-- A host word write wraps at the top of memory (20 R54, S5). -/
theorem test_host_word_wraps :
    (State.reset.hostMove (.writeWord 0xFFFF#16 0x1234#16)).mem = [(0x0000, 0x12#8), (0xFFFF, 0x34#8)] ∧
      (State.reset.hostMove (.writeWord 0xFFFF#16 0x1234#16)).readWord 0xFFFF#16 = 0x1234#16 := by decide

/-- Writing 0x00 removes the cell (log 6). -/
theorem test_write_zero_removes :
    ((State.reset.writeByte 0xC000#16 0x5A#8).writeByte 0xC000#16 0x00#8).mem = [] := by decide

/-- The host resets between two steps of a latched engine, and only that lets it go on (60 R287, 70 R310). -/
theorem test_reset_event :
    (match runEvents paramsInForce [.step, .host .reset, .host (.loadImage 0x0000#16 [0x3E#8, 0x77#8]), .step] State.reset with
      | .next t => t.a == 0x77#8 && t.fault == none
      | .fault _ => false
      | .refused _ => false) = true := by decide

/-- The placed instruction is the next one to run, from a latched state too (log 7). -/
theorem test_fetch_word :
    stepsTo paramsInForce ((takeUnimplemented State.reset 0x00#8 false).withFetchWord 16 0x773E)
      (fun t => t.a == 0x77#8) = true := by decide

/-- The invariant holds at reset and its memory is canonical. -/
theorem test_reset_memory_canonical : State.reset.mem.wf = true := by decide

/-! Witnesses: for each statement with hypotheses, a state and operands that meet them. -/

/-- ADD A,B at 0x0000. -/
def atAdd : State := { State.reset with mem := [(0x0000, 0x80#8)] }

/-- RL C at 0xFFFF, across the wrap. -/
def atCb : State := { State.reset with pc := 0xFFFF#16, mem := [(0x0000, 0x11#8), (0xFFFF, 0xCB#8)] }

/-- An empty slot behind 0xCB, its second byte at 0x0000. -/
def atEmptyCb : State := { State.reset with pc := 0xFFFF#16, mem := [(0x0000, 0x37#8), (0xFFFF, 0xCB#8)] }

/-- LD A,0x77 at 0xFFFF. -/
def atImm : State := { State.reset with pc := 0xFFFF#16, mem := [(0x0000, 0x77#8), (0xFFFF, 0x3E#8)] }

theorem witness_encoded_admitted :
    Instr.admitted false .add_a_b = true ∧ Instr.admitted true .add_a_b = true ∧ Instr.admitted true .and_b = true := by
  decide

theorem witness_round_trip :
    decodeBytes (DecodeTable.standard false) [0x3E#8, 0xFF#8, 0x00#8] = .ok (⟨.ld_a_n, [0xFF#8]⟩, [0x00#8]) := by decide

theorem witness_two_slots :
    (DecodeTable.standard false).decode 0x80#8 false = some .add_a_b ∧
      (DecodeTable.standard true).decode 0x3F#8 true = some .srl_a := by decide

theorem witness_legal_and_not : (DecodeTable.standard true).legal = true ∧ doubledTable.legal = false := by
  decide +kernel

theorem witness_second_table : atCb.fault = none ∧ atCb.readByte atCb.pc = 0xCB#8 := by decide

theorem witness_length_decoded :
    decodeBytes (DecodeTable.standard true) [0xCB#8, 0x3F#8] = .ok (⟨.srl_a, []⟩, []) ∧
      decodeBytes (DecodeTable.standard false) [0xFA#8, 0x34#8, 0xC2#8] = .ok (⟨.ld_a_indNN, [0x34#8, 0xC2#8]⟩, []) := by
  decide

theorem witness_length_empty_slots :
    (DecodeTable.standard true).decode 0xFF#8 false = none ∧ (DecodeTable.standard true).decode 0x30#8 true = none ∧
      (DecodeTable.standard true).decode 0x37#8 true = none := by decide

theorem witness_step_runs :
    (atAdd.fault = none ∧ atAdd.readByte atAdd.pc ≠ 0xCB#8 ∧
      paramsInForce.tables.unprefixed (atAdd.readByte atAdd.pc) = some .add_a_b) ∧
    (atCb.fault = none ∧ atCb.readByte atCb.pc = 0xCB#8 ∧
      paramsInForce.tables.cb (atCb.readByte (atCb.pc + 1#16)) = some .rl_c) := by decide

theorem witness_step_agrees :
    decodeBytes (DecodeTable.standard false) (atImm.loadBytes 3 atImm.pc) = .ok (⟨.ld_a_n, [0x77#8]⟩, [0x00#8]) ∧
      decodeBytes (DecodeTable.standard true) (atEmptyCb.loadBytes 3 atEmptyCb.pc) = .error (.emptySlot 0x37#8 true) ∧
      atImm.fault = none ∧ atEmptyCb.fault = none := by decide

theorem witness_empty_slot :
    (State.reset.fault = none ∧ State.reset.readByte State.reset.pc ≠ 0xCB#8 ∧
      tableInForce.unprefixed (State.reset.readByte State.reset.pc) = none) ∧
    (atEmptyCb.fault = none ∧ atEmptyCb.readByte atEmptyCb.pc = 0xCB#8 ∧
      tableInForce.cb (atEmptyCb.readByte (atEmptyCb.pc + 1#16)) = none) := by decide

/-- A latched state, as the step from reset leaves it. -/
theorem witness_latched :
    (takeUnimplemented State.reset 0x00#8 false).fault = some (.unimplementedOpcode 0x00#8 false) := by decide

/-- Steps that latch, and steps that do not, with an instruction in the slot. -/
theorem witness_only_empty_slots :
    stepWith paramsInForce State.reset = .next (takeUnimplemented State.reset 0x00#8 false) ∧
      (takeUnimplemented State.reset 0x00#8 false).fault = some (.unimplementedOpcode 0x00#8 false) ∧
      stepWith paramsInForce atImm = .next { atImm with a := 0x77#8, pc := 0x0001#16 } ∧
      tableInForce.decode (fetch atImm).opcode (fetch atImm).prefixed = some .ld_a_n := ⟨rfl, rfl, rfl, rfl⟩

theorem witness_running : State.reset.fault = none := rfl

/-- The invariant with a latched fault, and a step from a state that meets it. -/
theorem witness_invariant :
    atImm.Inv tableInForce ∧ stepWith paramsInForce atImm = .next { atImm with a := 0x77#8, pc := 0x0001#16 } ∧
      (takeUnimplemented State.reset 0x00#8 false).Inv tableInForce := by
  refine ⟨⟨rfl, fun o p h => ?_⟩, rfl, rfl, fun o p h => ?_⟩
  · simp [atImm, State.reset] at h
  · simp only [takeUnimplemented, Option.some.injEq, Fault.unimplementedOpcode.injEq] at h
    obtain ⟨rfl, rfl⟩ := h
    decide

theorem witness_host_move : atCb.mem.wf = true ∧ HostMove.writeWord 0xFFFF#16 0x1234#16 ≠ .reset := by decide

theorem witness_not_af : (Pair.bc ≠ .af) ∧ (Pair.hl ≠ .af) := by decide

/-- Canonical memories, the last address listed. -/
theorem witness_canonical : atCb.mem.wf = true ∧ Memory.wf [(0xFFFF, 0x01#8)] = true ∧ Memory.wf [] = true := by decide

/-- The hypotheses of CanonicalMemoryIsUnique. -/
theorem witness_same_reads : ∃ m m' : Memory, m.wf = true ∧ m'.wf = true ∧ m ≠ [] ∧
    ∀ a : Word, m.read a.toNat = m'.read a.toNat :=
  ⟨[(0xFFFF, 0x01#8)], [(0xFFFF, 0x01#8)], by decide, by decide, by decide, fun _ => rfl⟩

/-- exec answers next states, one of each kind the frame statements speak of. -/
theorem witness_frames :
    exec .ld_b_c { State.reset with c := 0x5A#8 } = .next { State.reset with b := 0x5A#8, c := 0x5A#8 } ∧
      writesFlags (Instr.variant .ld_b_c) = false ∧ writesSp (Instr.variant .ld_b_c) = false ∧
      ∃ t, exec .ld_indHL_a { State.reset with a := 0x5A#8, h := 0xFF#8, l := 0xFF#8 } = .next t ∧
        t.readByte 0xFFFF#16 = 0x5A#8 :=
  ⟨rfl, rfl, rfl, _, rfl, by decide⟩

/-- JP NZ,0x1234 at 0xFFFE. -/
def atJump : State :=
  { State.reset with pc := 0xFFFE#16, mem := [(0x0000, 0x12#8), (0xFFFE, 0xC2#8), (0xFFFF, 0x34#8)] }

/-- A jump taken: its target. -/
theorem witness_pc_jump_taken :
    (∃ t, stepWith paramsDefault atJump = .next t ∧ t.pc = 0x1234#16) ∧
      (DecodeTable.standard false).decode (fetch atJump).opcode (fetch atJump).prefixed = some .jp_nz_nn ∧
      takesJump atJump.f (Instr.variant .jp_nz_nn) = true := ⟨⟨_, rfl, by decide⟩, by decide, by decide⟩

/-- A jump not taken: past its operand, which wraps. -/
theorem witness_pc_jump_not_taken :
    (∃ t, stepWith paramsDefault { atJump with f := ⟨true, false, false, false⟩ } = .next t ∧
      t.pc = 0x0001#16) ∧ takesJump ⟨true, false, false, false⟩ (Instr.variant .jp_nz_nn) = false :=
  ⟨⟨_, rfl, by decide⟩, by decide⟩

/-- An instruction without a jump, and an empty slot. -/
theorem witness_pc_other :
    (∃ t, stepWith paramsDefault atImm = .next t ∧ t.pc = 0x0001#16) ∧
      (∃ t, stepWith paramsDefault State.reset = .next t ∧ t.pc = 0x0000#16) ∧
      (DecodeTable.standard false).decode (fetch State.reset).opcode (fetch State.reset).prefixed = none :=
  ⟨⟨_, rfl, by decide⟩, ⟨_, rfl, by decide⟩, by decide⟩

/-- The operand bytes 0x34, 0x12 stand at 0x1000 and, across the wrap, at 0xFFFF. -/
def atTwoPcs : State :=
  { State.reset with
    pc := 0x1000#16
    mem := [(0x0000, 0x12#8), (0x1000, 0x34#8), (0x1001, 0x12#8), (0xFFFF, 0x34#8)] }

/-- Equal operand bytes at two pcs, for no, one and two operand bytes, with a jump taken and one not taken. -/
theorem witness_two_pcs :
    atTwoPcs.loadBytes (Instr.operandWidth .add_a_b) 0xFFFF#16 =
      atTwoPcs.loadBytes (Instr.operandWidth .add_a_b) atTwoPcs.pc ∧
    atTwoPcs.loadBytes (Instr.operandWidth .ld_indHL_n) 0xFFFF#16 =
      atTwoPcs.loadBytes (Instr.operandWidth .ld_indHL_n) atTwoPcs.pc ∧
    atTwoPcs.loadBytes (Instr.operandWidth .jp_nz_nn) 0xFFFF#16 =
      atTwoPcs.loadBytes (Instr.operandWidth .jp_nz_nn) atTwoPcs.pc ∧
    takesJump atTwoPcs.f (Instr.variant .jp_nz_nn) = true ∧ takesJump atTwoPcs.f (Instr.variant .jp_z_nn) = false := by
  decide

/-- Flags under which each conditional jump is taken and is not. -/
theorem witness_conditions :
    (Flags.ofByte 0x80#8).z = true ∧ (Flags.ofByte 0x00#8).z = false ∧ (Flags.ofByte 0x10#8).c = true ∧
      (Flags.ofByte 0x80#8).c = false := by decide

/-- LD SP,0xBEEF then LD (0xFFFF),SP. -/
def atSpPair : State :=
  { State.reset with
    mem := [(0x0000, 0x31#8), (0x0001, 0xEF#8), (0x0002, 0xBE#8), (0x0003, 0x08#8), (0x0004, 0xFF#8), (0x0005, 0xFF#8)] }

theorem witness_sp_pair :
    atSpPair.mem.wf = true ∧ atSpPair.fault = none ∧
      atSpPair.loadBytes 6 atSpPair.pc =
        [0x31#8, (0xBEEF#16).setWidth 8, (0xBEEF#16 >>> 8).setWidth 8, 0x08#8, (0xFFFF#16).setWidth 8,
          (0xFFFF#16 >>> 8).setWidth 8] := by decide

/-- LD (HL),A at 0xFFFF with HL = 0x0000, storing ADD A,B over the next instruction. -/
def atSelfStore : State := { State.reset with a := 0x80#8, pc := 0xFFFF#16, mem := [(0xFFFF, 0x77#8)] }

/-- PUSH BC at 0x0000 with sp = 0x0003, storing 0xCB 0x11 over the next instruction: a prefix and a prefixed opcode. -/
def atSelfPush : State :=
  { State.reset with b := 0x11#8, c := 0xCB#8, sp := 0x0003#16, mem := [(0x0000, 0xC5#8)] }

/-- The hypotheses of StoreIsSeenByTheNextFetch, with a stored opcode at the next pc. -/
theorem witness_self_store :
    atSelfStore.mem.wf = true ∧ atSelfStore.fault = none ∧
      (DecodeTable.standard false).decode (fetch atSelfStore).opcode (fetch atSelfStore).prefixed = some .ld_indHL_a ∧
      storedBytes (atSelfStore.setPc (fetch atSelfStore).pc) (Instr.variant .ld_indHL_a) =
        [(atSelfStore.pc + 1#16, 0x80#8)] ∧
      (∃ t, stepWith paramsDefault atSelfStore = .next t ∧
        (DecodeTable.standard false).decode (fetch t).opcode (fetch t).prefixed = some .add_a_b) :=
  ⟨by decide, by decide, by decide, by decide, _, rfl, by decide⟩

/-- The same with a stored prefix at the next pc and a stored opcode after it. -/
theorem witness_self_push :
    atSelfPush.mem.wf = true ∧ atSelfPush.fault = none ∧
      (DecodeTable.standard true).decode (fetch atSelfPush).opcode (fetch atSelfPush).prefixed = some .push_bc ∧
      storedBytes (atSelfPush.setPc (fetch atSelfPush).pc) (Instr.variant .push_bc) =
        [(atSelfPush.pc + 1#16, 0xCB#8), (atSelfPush.pc + 2#16, 0x11#8)] ∧
      (∃ t, stepWith paramsInForce atSelfPush = .next t ∧ t.readByte t.pc = 0xCB#8 ∧
        (DecodeTable.standard true).decode (fetch t).opcode (fetch t).prefixed = some .rl_c) :=
  ⟨by decide, by decide, by decide, by decide, _, rfl, by decide, by decide⟩

end Sys2Proof.Tests
end

section
/-! The two modes of ADD HL,rr compared (00 R5, 42 R164). -/

namespace Sys2Proof.Machine

/-- `n`, `h` and `c` after ADD HL,rr are those of the addition under either mode (42 R164). -/
theorem addHlFlags_eq_with_z (m m' : ZeroMode) (old new : Flags) :
    addHlFlags m' old new = { addHlFlags m old new with z := (addHlFlags m' old new).z } := by
  cases m <;> cases m' <;> rfl

theorem addHl_eq_with_z (m m' : ZeroMode) (p : AddPair) (s : State) :
    ∃ t t', addHl m p s = .next t ∧ addHl m' p s = .next t' ∧ t' = { t with f := { t.f with z := t'.f.z } } :=
  ⟨_, _, rfl, rfl, congrArg (State.setFlags _) (addHlFlags_eq_with_z m m' _ _)⟩

/-- A variant other than ADD HL,rr answers one next state under both modes. -/
theorem handler_next_of_ne_addHL (m m' : ZeroMode) (v : Variant) (s : State) (h : ∀ p, v ≠ .addHL p) :
    ∃ t, handler m v s = .next t ∧ handler m' v s = .next t := by
  obtain ⟨t, ht, -⟩ := handler_next m v s
  exact ⟨t, ht, handler_mode m m' v s h ▸ ht⟩

theorem execUnder_addHlZeroMode (i : Instr) (s : State) : execUnder addHlZeroMode i s = exec i s :=
  (execUnder_eq_handler addHlZeroMode i s).trans (exec_eq_handler i s).symm

/-- Settles O58: of the variants only ADD HL,rr looks at the mode, and it looks at it for `z` alone. -/
theorem zeroModeChangesOnlyZOfAddHl : Obligations.ZeroModeChangesOnlyZOfAddHl := by
  unfold Obligations.ZeroModeChangesOnlyZOfAddHl
  refine ⟨fun m m' i s => ?_, execUnder_addHlZeroMode⟩
  rw [execUnder_eq_handler m, execUnder_eq_handler m']
  by_cases hv : ∃ p, i.variant = .addHL p
  · obtain ⟨p, hp⟩ := hv
    obtain ⟨t, t', ht, ht', hz⟩ := addHl_eq_with_z m m' p s
    rw [hp]
    exact ⟨t, t', ht, ht', hz, fun hne => absurd rfl (hne p)⟩
  · have hne : ∀ p, i.variant ≠ .addHL p := not_exists.mp hv
    obtain ⟨t, ht, ht'⟩ := handler_next_of_ne_addHL m m' i.variant s hne
    exact ⟨t, t, ht, ht', rfl, fun _ => rfl⟩

end Sys2Proof.Machine
end

section
/-! The flag byte and the views of register pairs (10 R23 to R27). -/

namespace Sys2Proof.Machine

theorem Flags.toByte_toNat (f : Flags) :
    f.toByte.toNat = 128 * f.z.toNat + 64 * f.n.toNat + 32 * f.h.toNat + 16 * f.c.toNat := by
  obtain ⟨z, n, h, c⟩ := f
  revert z n h c
  decide

/-- The bits of the flag byte, from bit 0 up (10 R23). -/
theorem Flags.getLsbD_toByte (f : Flags) (i : Nat) :
    f.toByte.getLsbD i = [false, false, false, false, f.c, f.h, f.n, f.z].getD i false := by
  by_cases hi : i < 8
  · obtain ⟨z, n, h, c⟩ := f
    revert z n h c
    interval_cases i <;> decide
  · rw [BitVec.getLsbD_of_ge _ _ (by omega), List.getD_eq_default _ _ (by simpa using hi)]

/-- Writing a byte as flags keeps its bits 7 to 4 (10 R24). -/
theorem Flags.toByte_ofByte (v : Byte) : (Flags.ofByte v).toByte = v &&& 0xF0#8 := by
  apply BitVec.eq_of_getLsbD_eq
  intro i hi
  rw [Flags.getLsbD_toByte, BitVec.getLsbD_and]
  interval_cases i <;> simp [Flags.ofByte]

/-- Reading the flag byte back loses nothing (10 R24). -/
theorem Flags.ofByte_toByte (f : Flags) : Flags.ofByte f.toByte = f := by
  simp only [Flags.ofByte, Flags.getLsbD_toByte]
  rfl

/-- Bits 3 to 0 of the flag byte are zero (10 R23). -/
theorem Flags.toByte_and_low (f : Flags) : f.toByte &&& 0x0F#8 = 0x00#8 := by
  rw [← Flags.ofByte_toByte f, Flags.toByte_ofByte, BitVec.and_assoc]
  exact BitVec.and_zero

theorem join_and (x y x' y' : Byte) : join x y &&& join x' y' = join (x &&& x') (y &&& y') := BitVec.and_append

/-- The invariant of 10 R27. -/
theorem State.pair_af_and_low (s : State) : s.pair .af &&& 0x000F#16 = 0x0000#16 := by
  calc join s.a s.f.toByte &&& join 0x00#8 0x0F#8
    _ = join (s.a &&& 0x00#8) (s.f.toByte &&& 0x0F#8) := join_and _ _ _ _
    _ = join 0x00#8 0x00#8 := by rw [BitVec.and_zero, Flags.toByte_and_low]

/-- A write of AF drops bits 3 to 0 (10 R27). -/
theorem State.setPair_af_pair (s : State) (w : Word) : (s.setPair .af w).pair .af = w &&& 0xFFF0#16 := by
  calc join (hiByte w) (Flags.ofByte (loByte w)).toByte
    _ = join (hiByte w &&& 0xFF#8) (loByte w &&& 0xF0#8) := by
      rw [Flags.toByte_ofByte, show 0xFF#8 = BitVec.allOnes 8 from rfl, BitVec.and_allOnes]
    _ = join (hiByte w) (loByte w) &&& join 0xFF#8 0xF0#8 := (join_and _ _ _ _).symm
    _ = w &&& 0xFFF0#16 := by rw [join_hi_lo]; rfl

theorem loByte_eq_setWidth (w : Word) : loByte w = w.setWidth 8 := by
  simp [loByte, BitVec.setWidth_eq_extractLsb']

theorem State.setPair_f_of_ne_af (s : State) (p : Pair) (w : Word) (hp : p ≠ .af) : (s.setPair p w).f = s.f := by
  cases p with
  | af => exact absurd rfl hp
  | bc | de | hl => simp

/-- Settles O19: the layout as a sum of bit values, and both round trips bit by bit. -/
theorem flagByteLayoutAndRoundTrip : Obligations.FlagByteLayoutAndRoundTrip := by
  unfold Obligations.FlagByteLayoutAndRoundTrip
  exact ⟨Flags.toByte_toNat, fun _ => ⟨rfl, rfl, rfl, rfl⟩, Flags.toByte_ofByte, Flags.ofByte_toByte⟩

/-- Settles O20: a pair read joins its two cells, a pair write splits the word over them; AF goes through the flag
byte. -/
theorem pairViews : Obligations.PairViews := by
  unfold Obligations.PairViews
  refine ⟨fun s => ?reads, fun s w => ?writes, fun s p w => ?frame⟩
  case reads =>
    exact ⟨join_toNat _ _, join_toNat _ _, join_toNat _ _, join_toNat _ _, s.pair_af_and_low⟩
  case writes =>
    obtain ⟨hbc, hde, hhl⟩ := setPair_pair_same s w
    exact ⟨hbc, hde, hhl, s.setPair_af_pair w, by rw [State.setPair_f_af, loByte_eq_setWidth]⟩
  case frame =>
    exact ⟨setPair_reg s p w, s.setPair_f_of_ne_af p w, by simp, by simp, by simp, by simp⟩

end Sys2Proof.Machine
end

section
/-! The reset state (10 R36). -/

namespace Sys2Proof.Machine

theorem State.reset_reg (r : Reg8) : State.reset.reg r = 0x00#8 := by cases r <;> rfl

theorem State.reset_readByte (a : Word) : State.reset.readByte a = 0x00#8 := rfl

/-- A state that has no fault latched has none to justify (60 R281). -/
theorem State.faultJustified_of_fault_none {s : State} (h : s.fault = none) (T : DecodeTable) : s.FaultJustified T :=
  fun _ _ hf => absurd (h.symm.trans hf) (by simp)

/-- Settles O15: the empty list of cells is canonical, and no fault is latched. -/
theorem resetMeetsTheInvariant : Obligations.ResetMeetsTheInvariant := by
  unfold Obligations.ResetMeetsTheInvariant
  exact fun T => ⟨rfl, State.faultJustified_of_fault_none rfl T⟩

/-- Settles O17: every row of the table of 10 R36, the memory bytes read through the empty list of cells. -/
theorem resetState : Obligations.ResetState := by
  unfold Obligations.ResetState
  exact ⟨State.reset_reg, rfl, rfl, rfl, rfl, rfl, rfl, State.reset_readByte, rfl⟩

end Sys2Proof.Machine
end

section
/-! A canonical memory is determined by what it reads (10 R32, 20 R50). -/

namespace Sys2Proof.Machine

theorem Memory.wfFrom_cons_iff {lo k : Nat} {x : Byte} {m : Memory} :
    Memory.wfFrom lo ((k, x) :: m) = true ↔
      lo ≤ k ∧ k < 65536 ∧ x ≠ 0x00#8 ∧ Memory.wfFrom (k + 1) m = true := by
  simp [Memory.wfFrom, and_assoc]

/-- A canonical list of cells is canonical from its first address up. -/
theorem Memory.wfFrom_head {lo k : Nat} {x : Byte} {m : Memory} (hm : Memory.wfFrom lo ((k, x) :: m) = true) :
    Memory.wfFrom k ((k, x) :: m) = true :=
  Memory.wfFrom_cons_iff.mpr ⟨le_rfl, (Memory.wfFrom_cons_iff.mp hm).2⟩

@[simp] theorem Memory.read_cons_self (k : Nat) (x : Byte) (m : Memory) : Memory.read ((k, x) :: m) k = x := if_pos rfl

theorem Memory.read_cons_of_ne {a k : Nat} (h : a ≠ k) (x : Byte) (m : Memory) :
    Memory.read ((k, x) :: m) a = Memory.read m a := if_neg h

/-- A listed address reads other than 0x00, so it is not below every address of a canonical memory that reads the
same. -/
theorem Memory.head_le_of_read_eq {lo lo' k : Nat} {x : Byte} {m m' : Memory}
    (hm : Memory.wfFrom lo ((k, x) :: m) = true) (hm' : Memory.wfFrom lo' m' = true)
    (h : ∀ a < 65536, Memory.read ((k, x) :: m) a = Memory.read m' a) : lo' ≤ k := by
  obtain ⟨-, hk, hx, -⟩ := Memory.wfFrom_cons_iff.mp hm
  by_contra hlt
  have hread := h k hk
  rw [Memory.read_cons_self, Memory.read_below (by omega) hm'] at hread
  exact hx hread

/-- A canonical memory that has a cell does not read 0x00 everywhere. -/
theorem Memory.exists_read_ne_zero {lo k : Nat} {x : Byte} {m : Memory}
    (hm : Memory.wfFrom lo ((k, x) :: m) = true) : ∃ a < 65536, Memory.read ((k, x) :: m) a ≠ 0x00#8 := by
  obtain ⟨-, hk, hx, -⟩ := Memory.wfFrom_cons_iff.mp hm
  exact ⟨k, hk, by rwa [Memory.read_cons_self]⟩

/-- Two canonical lists with the same reads agree cell by cell: their first addresses are equal, hence their first
bytes, and the tails again have the same reads. -/
theorem Memory.wfFrom_ext {lo lo' : Nat} {m m' : Memory} (hm : Memory.wfFrom lo m = true)
    (hm' : Memory.wfFrom lo' m' = true) (h : ∀ a < 65536, Memory.read m a = Memory.read m' a) : m = m' := by
  induction m generalizing lo lo' m' with
  | nil =>
    cases m' with
    | nil => rfl
    | cons c' m' =>
      obtain ⟨a, ha, hne⟩ := Memory.exists_read_ne_zero hm'
      exact absurd (h a ha).symm hne
  | cons c m ih =>
    cases m' with
    | nil =>
      obtain ⟨a, ha, hne⟩ := Memory.exists_read_ne_zero hm
      exact absurd (h a ha) hne
    | cons c' m' =>
      obtain ⟨k, x⟩ := c
      obtain ⟨k', x'⟩ := c'
      have hkk : k = k' := le_antisymm
        (Memory.head_le_of_read_eq hm' (Memory.wfFrom_head hm) fun a ha => (h a ha).symm)
        (Memory.head_le_of_read_eq hm (Memory.wfFrom_head hm') h)
      subst hkk
      obtain ⟨-, hk, -, ht⟩ := Memory.wfFrom_cons_iff.mp hm
      obtain ⟨-, -, -, ht'⟩ := Memory.wfFrom_cons_iff.mp hm'
      have hx : x = x' := by simpa using h k hk
      have htail : ∀ a < 65536, Memory.read m a = Memory.read m' a := by
        intro a ha
        by_cases hak : a = k
        · rw [Memory.read_below (by omega) ht, Memory.read_below (by omega) ht']
        · simpa only [Memory.read_cons_of_ne hak] using h a ha
      rw [hx, ih ht ht' htail]

/-- Settles O23, by induction on the two lists of cells from address 0 up. -/
theorem canonicalMemoryIsUnique : Obligations.CanonicalMemoryIsUnique := by
  unfold Obligations.CanonicalMemoryIsUnique
  exact fun m m' hm hm' h => Memory.wfFrom_ext hm hm' fun a ha => by
    simpa only [BitVec.toNat_ofNat, Nat.mod_eq_of_lt ha] using h (BitVec.ofNat 16 a)

end Sys2Proof.Machine
end

section
/-! The 8-bit registers each instruction writes (10 R34): one lemma per shared operation of the families. -/

namespace Sys2Proof.Machine

/-- What the handler's next state meets, the state `exec` answers meets. -/
theorem of_exec_next {i : Instr} {s t : State} {Q : State → Prop} (h : exec i s = .next t)
    (hQ : ∃ t, handler addHlZeroMode i.variant s = .next t ∧ Q t) : Q t := by
  obtain ⟨t', ht', hq⟩ := hQ
  rw [exec_eq_handler, ht'] at h
  exact Host.Outcome.next.inj h ▸ hq

/-- The operation answers a next state in which every 8-bit register outside `rs` is unchanged. -/
def keepsRegsBut (rs : List Reg8) (op : State → Result) (s : State) : Prop :=
  ∃ t, op s = .next t ∧ regsKept rs s t

theorem keepsRegsBut_of_aluLeaves {op : State → Result} {r : AluResult} {src : Src8} {s : State}
    (h : ∃ t, op s = .next t ∧ AluLeaves r src s t) : keepsRegsBut [.a] op s :=
  h.imp fun _ ⟨ht, hl⟩ => ⟨ht, fun q hq => hl.regs q (by simpa using hq)⟩

theorem rotateA_keepsRegsBut (op : ShiftOp) (s : State) : keepsRegsBut [.a] (rotateA op) s := by
  obtain ⟨t, ht, -, -, -, -, -, -, hregs⟩ := rotateA_next op s
  exact ⟨t, ht, fun q hq => hregs q (by simpa using hq)⟩

theorem shiftTgt_reg_keepsRegsBut (op : ShiftOp) (r : Reg8) (s : State) :
    keepsRegsBut [r] (shiftTgt op (.reg r)) s := by
  obtain ⟨t, ht, -, -, -, -, -, -, hregs⟩ := shiftTgt_reg_next op r s
  exact ⟨t, ht, fun q hq => hregs q (by simpa using hq)⟩

theorem shiftTgt_indHL_keepsRegsBut (op : ShiftOp) (s : State) : keepsRegsBut [] (shiftTgt op .indHL) s := by
  obtain ⟨t, ht, -, -, -, -, -, hregs⟩ := shiftTgt_indHL_next op s
  exact ⟨t, ht, fun q _ => hregs q⟩

theorem addHl_keepsRegsBut (mode : ZeroMode) (p : AddPair) (s : State) : keepsRegsBut [.h, .l] (addHl mode p) s := by
  obtain ⟨t, ht, -, -, -, -, -, -, hregs⟩ := addHl_next mode p s
  refine ⟨t, ht, fun q hq => ?_⟩
  obtain ⟨hh, hl⟩ : q ≠ .h ∧ q ≠ .l := by simpa using hq
  exact hregs q hh hl

theorem setReg_regsKept (s : State) (r : Reg8) (v : Byte) : regsKept [r] s (s.setReg r v) :=
  fun q hq => s.setReg_reg_ne r q v (by simpa using hq)

theorem ldRegReg_keepsRegsBut (dst src : Reg8) (s : State) : keepsRegsBut [dst] (ldRegReg dst src) s :=
  ⟨_, rfl, setReg_regsKept s dst _⟩

theorem ldRegImm_keepsRegsBut (r : Reg8) (s : State) : keepsRegsBut [r] (ldRegImm r) s :=
  ⟨_, rfl, fun q hq => (setReg_regsKept (imm8 s).2 r _ q hq).trans (by simp)⟩

/-- The registers a memory mode writes after the access (43 R185 to R188). -/
def adjustedRegs : Mode → List Reg8
  | .hlInc | .hlDec => [.h, .l]
  | .indHL | .indBC | .indDE | .absolute | .highC | .highN => []

theorem afterAccess_regsKept (m : Mode) (x : Word) (s : State) : regsKept (adjustedRegs m) s (afterAccess m x s) := by
  intro q hq
  cases m with
  | hlInc | hlDec => exact setPair_reg s .hl _ q hq
  | indHL | indBC | indDE | absolute | highC | highN => rfl

theorem load_keepsRegsBut (m : Mode) (r : Reg8) (s : State) : keepsRegsBut (r :: adjustedRegs m) (load m r) s := by
  refine ⟨_, rfl, fun q hq => ?_⟩
  have hr : q ≠ r := List.ne_of_not_mem_cons hq
  have hm : q ∉ adjustedRegs m := List.not_mem_of_not_mem_cons hq
  simp [afterAccess_regsKept m _ _ q hm, State.setReg_reg_ne _ _ _ _ hr]

theorem store_keepsRegsBut (m : Mode) (r : Reg8) (s : State) : keepsRegsBut (adjustedRegs m) (store m r) s :=
  ⟨_, rfl, fun q hm => (afterAccess_regsKept m _ _ q hm).trans (by simp)⟩

theorem ldPairImm_keepsRegsBut (p : LoadPair) (s : State) :
    keepsRegsBut (writtenRegs (.ldPairImm p)) (ldPairImm p) s := by
  obtain ⟨t, ht, rfl⟩ := ldPairImm_next p s
  refine ⟨_, ht, fun q hq => ?_⟩
  cases p with
  | bc => exact (setPair_reg _ .bc _ q hq).trans (State.setPc_reg ..)
  | de => exact (setPair_reg _ .de _ q hq).trans (State.setPc_reg ..)
  | hl => exact (setPair_reg _ .hl _ q hq).trans (State.setPc_reg ..)
  | sp => exact (State.setSp_reg ..).trans (State.setPc_reg ..)

theorem pop_keepsRegsBut (p : Pair) (s : State) : keepsRegsBut (pairCells p) (pop p) s := by
  obtain ⟨t, ht, -, -, -, -, -, hregs⟩ := pop_next p s
  exact ⟨t, ht, hregs⟩

/-- Each variant's handler writes at most the registers the access table names for it (10 R34). -/
theorem handler_keepsRegsBut (mode : ZeroMode) (v : Variant) (s : State) :
    keepsRegsBut (writtenRegs v) (handler mode v) s := by
  cases v with
  | add src => exact keepsRegsBut_of_aluLeaves (addA_next src s)
  | adc src => exact keepsRegsBut_of_aluLeaves (adcA_next src s)
  | sub src => exact keepsRegsBut_of_aluLeaves (subA_next src s)
  | addHL p => exact addHl_keepsRegsBut mode p s
  | ldRegReg dst src => exact ldRegReg_keepsRegsBut dst src s
  | ldRegImm r => exact ldRegImm_keepsRegsBut r s
  | ldRegIndHL r => exact load_keepsRegsBut .indHL r s
  | ldAIndBC | ldAIndDE | ldAIndNN | ldhAIndC | ldhAIndN | ldAIndHLInc | ldAIndHLDec => exact load_keepsRegsBut _ .a s
  | ldIndHLReg r => exact store_keepsRegsBut .indHL r s
  | ldIndBCA | ldIndDEA | ldIndNNA | ldhIndCA | ldhIndNA | ldIndHLIncA | ldIndHLDecA => exact store_keepsRegsBut _ .a s
  | ldPairImm p => exact ldPairImm_keepsRegsBut p s
  | pop p => exact pop_keepsRegsBut p s
  | jpCond cc => exact ⟨_, jumpIf_next cc s, fun _ _ => State.setPc_reg ..⟩
  | ldIndHLImm | ldIndNNSP | ldSPHL | push p | jp => exact ⟨_, rfl, fun q _ => by simp⟩
  | and src | xor src | or src => exact keepsRegsBut_of_aluLeaves (logicA_next _ src s)
  | rlca | rrca | rla | rra => exact rotateA_keepsRegsBut _ s
  | rlc t | rrc t | rl t | rr t | sla t | sra t | srl t =>
    cases t with
    | reg r => exact shiftTgt_reg_keepsRegsBut _ r s
    | indHL => exact shiftTgt_indHL_keepsRegsBut _ s

/-- Settles O24: the handlers of the variants, each through the lemma of its shared operation. -/
theorem registersWrittenByEachInstruction : Obligations.RegistersWrittenByEachInstruction := by
  unfold Obligations.RegistersWrittenByEachInstruction
  exact fun i s t h => of_exec_next h (handler_keepsRegsBut addHlZeroMode i.variant s)

end Sys2Proof.Machine
end

section
/-! The writers of sp (10 R29, R34). -/

namespace Sys2Proof.Machine

theorem setLoadPair_sp_of_ne (p : LoadPair) (w : Word) (s : State) (hp : p ≠ .sp) :
    (setLoadPair p w s).sp = s.sp := by
  cases p with
  | sp => exact absurd rfl hp
  | bc | de | hl => simp [setLoadPair]

/-- The handler of a variant that is not one of the writers of sp keeps it. -/
theorem handler_sp (mode : ZeroMode) (v : Variant) (s : State) (hv : writesSp v = false) :
    ∃ t, handler mode v s = .next t ∧ t.sp = s.sp := by
  cases v with
  | ldSPHL | push p | pop p => cases hv
  | ldPairImm p =>
    have hp : p ≠ .sp := by rintro rfl; cases hv
    exact ⟨_, rfl, by simp [setLoadPair_sp_of_ne p _ _ hp]⟩
  | jpCond cc => exact ⟨_, jumpIf_next cc s, State.setPc_sp ..⟩
  | _ => exact ⟨_, rfl, by simp [writeAlu]⟩

/-- Settles O26: of the variants only the four writers reach sp. -/
theorem spWrittenOnlyByStackAndSpLoads : Obligations.SpWrittenOnlyByStackAndSpLoads := by
  unfold Obligations.SpWrittenOnlyByStackAndSpLoads
  exact fun i s t hv h => of_exec_next h (handler_sp addHlZeroMode i.variant s hv)

end Sys2Proof.Machine
end

section
/-! pc addresses the operand bytes and is read for nothing else (10 R28, 40 R117). -/

namespace Sys2Proof.Machine

/-! A write of pc commutes with every other update of the state. -/

@[simp] theorem State.setPc_setPc (s : State) (x y : Word) : (s.setPc x).setPc y = s.setPc y := rfl
@[simp] theorem State.setPc_setFlags (s : State) (x : Word) (v : Flags) :
    (s.setPc x).setFlags v = (s.setFlags v).setPc x := rfl
@[simp] theorem State.setPc_setSp (s : State) (x v : Word) : (s.setPc x).setSp v = (s.setSp v).setPc x := rfl
@[simp] theorem State.setPc_writeByte (s : State) (x a : Word) (v : Byte) :
    (s.setPc x).writeByte a v = (s.writeByte a v).setPc x := rfl
@[simp] theorem State.setPc_writeWord (s : State) (x a w : Word) :
    (s.setPc x).writeWord a w = (s.writeWord a w).setPc x := rfl
@[simp] theorem State.setPc_setReg (s : State) (x : Word) (r : Reg8) (v : Byte) :
    (s.setPc x).setReg r v = (s.setReg r v).setPc x := by cases r <;> rfl
@[simp] theorem State.setPc_setPair (s : State) (x : Word) (p : Pair) (w : Word) :
    (s.setPc x).setPair p w = (s.setPair p w).setPc x := by cases p <;> rfl
@[simp] theorem setLoadPair_setPc (p : LoadPair) (w : Word) (s : State) (x : Word) :
    setLoadPair p w (s.setPc x) = (setLoadPair p w s).setPc x := by cases p <;> simp [setLoadPair]
@[simp] theorem writeAlu_setPc (r : AluResult) (s : State) (x : Word) :
    writeAlu r (s.setPc x) = (writeAlu r s).setPc x := rfl
@[simp] theorem readTgt_setPc (t : Tgt8) (s : State) (x : Word) : readTgt t (s.setPc x) = readTgt t s := by
  cases t <;> simp [readTgt]
@[simp] theorem writeTgt_setPc (t : Tgt8) (v : Byte) (s : State) (x : Word) :
    writeTgt t v (s.setPc x) = (writeTgt t v s).setPc x := by cases t <;> simp [writeTgt]
@[simp] theorem afterAccess_setPc (m : Mode) (a : Word) (s : State) (x : Word) :
    afterAccess m a (s.setPc x) = (afterAccess m a s).setPc x := by cases m <;> simp [afterAccess]

/-! What the operand fetches read at pc is the operand bytes (40 R114, R115). -/

theorem State.readByte_eq_of_loadBytes_eq {s : State} {x y : Word} (h : s.loadBytes 1 x = s.loadBytes 1 y) :
    s.readByte x = s.readByte y := by
  simpa [State.loadBytes] using h

theorem State.readWord_eq_of_loadBytes_eq {s : State} {x y : Word} (h : s.loadBytes 2 x = s.loadBytes 2 y) :
    s.readWord x = s.readWord y := by
  obtain ⟨hlo, hhi⟩ : s.readByte x = s.readByte y ∧ s.readByte (x + 1#16) = s.readByte (y + 1#16) := by
    simpa [State.loadBytes] using h
  rw [State.readWord, State.readWord, hlo, hhi]

/-- The bytes an addressing mode advances pc over (40 R114 to R116). -/
def modeWidth : Mode → Nat
  | .absolute => 2
  | .highN => 1
  | .indHL | .indBC | .indDE | .highC | .hlInc | .hlDec => 0

section
variable {s : State} {x : Word}

theorem readSrc_setPc (src : Src8) (h : s.loadBytes (srcWidth src) x = s.loadBytes (srcWidth src) s.pc) :
    readSrc src (s.setPc x) = ((readSrc src s).1, s.setPc (x + BitVec.ofNat 16 (srcWidth src))) := by
  cases src with
  | reg r => simp [readSrc, srcWidth, srcFormat, Format.operandWidth]
  | indHL => simp [readSrc, srcWidth, srcFormat, Format.operandWidth]
  | imm =>
    simp [readSrc, imm8, srcWidth, srcFormat, Format.operandWidth, State.readByte_eq_of_loadBytes_eq h]

theorem effAddr_setPc (m : Mode) (h : s.loadBytes (modeWidth m) x = s.loadBytes (modeWidth m) s.pc) :
    effAddr m (s.setPc x) = ((effAddr m s).1, s.setPc (x + BitVec.ofNat 16 (modeWidth m))) := by
  cases m with
  | absolute => simp [effAddr, imm16, modeWidth, State.readWord_eq_of_loadBytes_eq h]
  | highN => simp [effAddr, imm8, modeWidth, State.readByte_eq_of_loadBytes_eq h]
  | _ => simp [effAddr, modeWidth]

end

/-- Run from `s` and from `s` with pc at `x`, the operation answers states that differ in pc alone, which is `w` bytes
on in both. -/
def advancesPc (w : Nat) (op : State → Result) (s : State) (x : Word) : Prop :=
  ∃ t, op s = .next t ∧ t.pc = s.pc + BitVec.ofNat 16 w ∧ op (s.setPc x) = .next (t.setPc (x + BitVec.ofNat 16 w))

/-- It is enough that at every pc with those operand bytes `op` answers one state `t` but for pc. -/
theorem advancesPc_of_forall {w : Nat} {op : State → Result} {s t : State} {x : Word}
    (hx : s.loadBytes w x = s.loadBytes w s.pc)
    (h : ∀ y, s.loadBytes w y = s.loadBytes w s.pc → op (s.setPc y) = .next (t.setPc (y + BitVec.ofNat 16 w))) :
    advancesPc w op s x :=
  ⟨_, h s.pc rfl, rfl, h x hx⟩

/-- An operation without operand bytes only has to carry pc along. -/
theorem advancesPc_zero {op : State → Result} {s t : State} {x : Word} (ht : op s = .next t)
    (h : ∀ y, op (s.setPc y) = .next (t.setPc y)) : advancesPc 0 op s x := by
  refine ⟨t, ht, ?_, by simpa using h x⟩
  have hself : .next t = (.next (t.setPc s.pc) : Result) := ht.symm.trans (h s.pc)
  simpa using congrArg State.pc (Host.Outcome.next.inj hself)

section
variable {s : State} {x : Word}

/-- ADD, ADC, SUB and the logic operations: an ALU result of A, the operand and the carry, written back to A. -/
theorem alu_advancesPc {op : State → Result} (g : Byte → Byte → Bool → AluResult) (src : Src8)
    (hop : ∀ s, op s = .next (writeAlu (g (s.reg .a) (readSrc src s).1 s.f.c) (readSrc src s).2))
    (h : s.loadBytes (srcWidth src) x = s.loadBytes (srcWidth src) s.pc) : advancesPc (srcWidth src) op s x :=
  advancesPc_of_forall (t := writeAlu (g (s.reg .a) (readSrc src s).1 s.f.c) s) h fun y hy => by
    simp [hop, readSrc_setPc src hy]

theorem load_advancesPc (m : Mode) (r : Reg8) (h : s.loadBytes (modeWidth m) x = s.loadBytes (modeWidth m) s.pc) :
    advancesPc (modeWidth m) (load m r) s x :=
  advancesPc_of_forall (t := afterAccess m (effAddr m s).1 (s.setReg r (s.readByte (effAddr m s).1))) h fun y hy => by
    simp [load, effAddr_setPc m hy]

theorem store_advancesPc (m : Mode) (r : Reg8) (h : s.loadBytes (modeWidth m) x = s.loadBytes (modeWidth m) s.pc) :
    advancesPc (modeWidth m) (store m r) s x :=
  advancesPc_of_forall (t := afterAccess m (effAddr m s).1 (s.writeByte (effAddr m s).1 (s.reg r))) h fun y hy => by
    simp [store, effAddr_setPc m hy]

theorem ldRegImm_advancesPc (r : Reg8) (h : s.loadBytes 1 x = s.loadBytes 1 s.pc) : advancesPc 1 (ldRegImm r) s x :=
  advancesPc_of_forall (t := s.setReg r (s.readByte s.pc)) h fun y hy => by
    simp [ldRegImm, State.readByte_eq_of_loadBytes_eq hy]

theorem storeImm_advancesPc (h : s.loadBytes 1 x = s.loadBytes 1 s.pc) : advancesPc 1 storeImm s x :=
  advancesPc_of_forall (t := s.writeByte (s.pair .hl) (s.readByte s.pc)) h fun y hy => by
    simp [storeImm, State.readByte_eq_of_loadBytes_eq hy]

theorem ldPairImm_advancesPc (p : LoadPair) (h : s.loadBytes 2 x = s.loadBytes 2 s.pc) :
    advancesPc 2 (ldPairImm p) s x :=
  advancesPc_of_forall (t := setLoadPair p (s.readWord s.pc) s) h fun y hy => by
    simp [ldPairImm, State.readWord_eq_of_loadBytes_eq hy]

theorem ldIndNNSP_advancesPc (h : s.loadBytes 2 x = s.loadBytes 2 s.pc) : advancesPc 2 ldIndNNSP s x :=
  advancesPc_of_forall (t := s.writeWord (s.readWord s.pc) s.sp) h fun y hy => by
    simp [ldIndNNSP, State.readWord_eq_of_loadBytes_eq hy]

/-- A jump not taken skips its operand (46 R222 to R225). -/
theorem jumpIf_advancesPc {cc : Cond} (hcc : condHolds cc s.f = false) : advancesPc 2 (jumpIf cc) s x :=
  ⟨s.setPc (s.pc + 2#16), by simp [jumpIf_next, hcc], rfl, by simp [jumpIf_next, hcc]⟩

theorem takesJump_jpCond (f : Flags) (cc : Cond) : takesJump f (.jpCond cc) = condHolds cc f := by cases cc <;> rfl

/-- A variant that takes no jump advances pc past its operand and reads it for nothing else. -/
theorem handler_advancesPc (mode : ZeroMode) (v : Variant) (hj : takesJump s.f v = false)
    (h : s.loadBytes v.format.operandWidth x = s.loadBytes v.format.operandWidth s.pc) :
    advancesPc v.format.operandWidth (handler mode v) s x := by
  cases v with
  | add src => exact alu_advancesPc (fun a y _ => add8 a y false) src (fun s => by simp [handler, addA]) h
  | adc src => exact alu_advancesPc add8 src (fun s => by simp [handler, adcA]) h
  | sub src => exact alu_advancesPc (fun a y _ => sub8 a y) src (fun s => by simp [handler, subA]) h
  | and src => exact alu_advancesPc (fun a y _ => logic .and a y) src (fun s => by simp [handler, logicA, writeAlu]) h
  | xor src => exact alu_advancesPc (fun a y _ => logic .xor a y) src (fun s => by simp [handler, logicA, writeAlu]) h
  | or src => exact alu_advancesPc (fun a y _ => logic .or a y) src (fun s => by simp [handler, logicA, writeAlu]) h
  | addHL p => exact advancesPc_zero rfl fun y => by simp [handler, addHl]
  | ldRegReg dst src => exact advancesPc_zero rfl fun y => by simp [handler, ldRegReg]
  | ldRegImm r => exact ldRegImm_advancesPc r h
  | ldRegIndHL r => exact load_advancesPc .indHL r h
  | ldAIndBC | ldAIndDE | ldAIndNN | ldhAIndC | ldhAIndN | ldAIndHLInc | ldAIndHLDec => exact load_advancesPc _ .a h
  | ldIndHLReg r => exact store_advancesPc .indHL r h
  | ldIndBCA | ldIndDEA | ldIndNNA | ldhIndCA | ldhIndNA | ldIndHLIncA | ldIndHLDecA => exact store_advancesPc _ .a h
  | ldIndHLImm => exact storeImm_advancesPc h
  | ldPairImm p => exact ldPairImm_advancesPc p h
  | ldIndNNSP => exact ldIndNNSP_advancesPc h
  | ldSPHL => exact advancesPc_zero rfl fun y => by simp [handler, ldSPHL]
  | push p => exact advancesPc_zero rfl fun y => by simp [handler, push]
  | pop p => exact advancesPc_zero rfl fun y => by simp [handler, pop]
  | jp => cases hj
  | jpCond cc => exact jumpIf_advancesPc ((takesJump_jpCond _ cc).symm.trans hj)
  | rlca | rrca | rla | rra => exact advancesPc_zero rfl fun y => by simp [handler, rotateA]
  | rlc t | rrc t | rl t | rr t | sla t | sra t | srl t =>
    exact advancesPc_zero rfl fun y => by simp [handler, shiftTgt]

/-- A jump taken overwrites pc with its operand, wherever the operand stood (46 R221). -/
theorem handler_setPc_of_takesJump (mode : ZeroMode) (v : Variant) (hj : takesJump s.f v = true)
    (h : s.loadBytes v.format.operandWidth x = s.loadBytes v.format.operandWidth s.pc) :
    handler mode v s = .next (s.setPc (s.readWord s.pc)) ∧
      handler mode v (s.setPc x) = .next (s.setPc (s.readWord s.pc)) := by
  cases v with
  | jp => exact ⟨rfl, by simp [handler, jump, State.readWord_eq_of_loadBytes_eq h]⟩
  | jpCond cc =>
    rw [takesJump_jpCond] at hj
    simp [handler, jumpIf_next, hj, State.readWord_eq_of_loadBytes_eq h]
  | _ => cases hj

end

/-- Settles O29: an instruction that jumps takes pc from its operand bytes, and any other only carries pc past them. -/
theorem pcIsNeverReadAsData : Obligations.PcIsNeverReadAsData := by
  unfold Obligations.PcIsNeverReadAsData
  intro i s pc h
  rw [exec_eq_handler, exec_eq_handler]
  cases hj : takesJump s.f i.variant with
  | true =>
    obtain ⟨ht, hu⟩ := handler_setPc_of_takesJump addHlZeroMode i.variant hj h
    exact ⟨_, _, ht, hu, fun _ => rfl, nofun⟩
  | false =>
    obtain ⟨t, ht, hpc, hu⟩ := handler_advancesPc addHlZeroMode i.variant hj h
    exact ⟨t, _, ht, hu, nofun, fun _ => ⟨hpc, rfl⟩⟩

end Sys2Proof.Machine
end

section
/-! Reading bytes and words back after a write (20 R51 to R54). -/

namespace Sys2Proof.Machine

theorem hiByte_eq_setWidth (w : Word) : hiByte w = (w >>> 8).setWidth 8 := rfl

theorem State.readWord_writeWord (s : State) (hm : s.mem.wf = true) (a w : Word) :
    (s.writeWord a w).readWord a = w := by
  rw [State.readWord, s.readByte_writeWord_hi hm, s.readByte_writeWord_lo hm, join_hi_lo]

theorem memKept_writeByte (s : State) (a : Word) (v : Byte) : memKept [a] s (s.writeByte a v) :=
  fun b hb => s.readByte_writeByte_ne a b v (by simpa using hb)

theorem memKept_writeWord (s : State) (a w : Word) : memKept [a, a + 1#16] s (s.writeWord a w) := by
  intro b hb
  obtain ⟨h0, h1⟩ : b ≠ a ∧ b ≠ a + 1#16 := by simpa using hb
  exact s.readByte_writeWord_ne a b w h0 h1

/-- Settles O21: read after write at the address and elsewhere; the other fields are untouched by definition. -/
theorem byteWriteThenRead : Obligations.ByteWriteThenRead := by
  unfold Obligations.ByteWriteThenRead
  exact fun s a v => ⟨fun hm => ⟨s.readByte_writeByte_same hm a v, s.writeByte_wf hm a v⟩,
    memKept_writeByte s a v, fun r _ => s.writeByte_reg a v r, rfl, rfl, rfl, rfl⟩

/-- Settles O22: the two bytes of a stored word lie at different addresses, 0xFFFF included, so neither write hides the
other. -/
theorem wordWriteThenRead : Obligations.WordWriteThenRead := by
  unfold Obligations.WordWriteThenRead
  refine ⟨fun s a => join_toNat _ _, fun s a w hm => ⟨?lo, ?hi, s.readWord_writeWord hm a w⟩, memKept_writeWord⟩
  case lo => rw [s.readByte_writeWord_lo hm, loByte_eq_setWidth]
  case hi => rw [s.readByte_writeWord_hi hm, hiByte_eq_setWidth]

end Sys2Proof.Machine
end

section
/-! What every handler does to memory: it writes the bytes it stores, in order, and nothing else (20 R57). -/

namespace Sys2Proof.Machine

/-- `s` after a byte write of each cell, in order. -/
def State.storeCells (s : State) : List (Word × Byte) → State
  | [] => s
  | c :: cs => (s.writeByte c.1 c.2).storeCells cs

theorem State.storeCells_wf (s : State) (hm : s.mem.wf = true) (cs : List (Word × Byte)) :
    (s.storeCells cs).mem.wf = true := by
  induction cs generalizing s with
  | nil => exact hm
  | cons c cs ih => exact ih _ (s.writeByte_wf hm c.1 c.2)

theorem memKept_storeCells (s : State) (cs : List (Word × Byte)) : memKept (cs.map Prod.fst) s (s.storeCells cs) := by
  induction cs generalizing s with
  | nil => exact fun a _ => rfl
  | cons c cs ih =>
    intro a ha
    obtain ⟨hc, hcs⟩ : a ≠ c.1 ∧ a ∉ cs.map Prod.fst := List.ne_and_not_mem_of_not_mem_cons ha
    exact (ih (s.writeByte c.1 c.2) a hcs).trans (s.readByte_writeByte_ne c.1 a c.2 hc)

/-- Cells at distinct addresses do not overwrite each other. -/
theorem State.readByte_storeCells (s : State) (hm : s.mem.wf = true) {cs : List (Word × Byte)}
    (hcs : (cs.map Prod.fst).Nodup) {c : Word × Byte} (hc : c ∈ cs) : (s.storeCells cs).readByte c.1 = c.2 := by
  induction cs generalizing s with
  | nil => cases hc
  | cons d cs ih =>
    obtain ⟨hd, hnodup⟩ := List.nodup_cons.mp hcs
    cases hc with
    | head => exact (memKept_storeCells _ cs c.1 hd).trans (s.readByte_writeByte_same hm c.1 c.2)
    | tail _ hc => exact ih _ (s.writeByte_wf hm d.1 d.2) hnodup hc

theorem State.readByte_of_mem_eq {s t : State} (h : t.mem = s.mem) (a : Word) : t.readByte a = s.readByte a := by
  rw [State.readByte, State.readByte, h]

/-- The addresses an instruction stores to are distinct: a stored word's second address is the next one. -/
theorem storedAt_nodup (s : State) (v : Variant) : (storedAt s v).Nodup := by
  cases v with
  | ldIndNNSP | push p => simp [storedAt, storedBytes, wordCells, (add_one_ne _).symm]
  | rlc t | rrc t | rl t | rr t | sla t | sra t | srl t =>
    cases t with
    | reg r => exact List.nodup_nil
    | indHL => exact List.nodup_singleton _
  | _ => simp [storedAt, storedBytes]

/-- The operation answers a next state whose memory is that of `s` after the writes `cs`. -/
def storesCells (cs : List (Word × Byte)) (op : State → Result) (s : State) : Prop :=
  ∃ t, op s = .next t ∧ t.mem = (s.storeCells cs).mem

theorem storesCells_nil_of_aluLeaves {op : State → Result} {r : AluResult} {src : Src8} {s : State}
    (h : ∃ t, op s = .next t ∧ AluLeaves r src s t) : storesCells [] op s :=
  h.imp fun _ ⟨ht, hl⟩ => ⟨ht, hl.mem⟩

theorem rotateA_storesCells (op : ShiftOp) (s : State) : storesCells [] (rotateA op) s := by
  obtain ⟨t, ht, -, -, -, -, -, hmem, -⟩ := rotateA_next op s
  exact ⟨t, ht, hmem⟩

theorem shiftTgt_reg_storesCells (op : ShiftOp) (r : Reg8) (s : State) : storesCells [] (shiftTgt op (.reg r)) s := by
  obtain ⟨t, ht, -, -, -, -, -, hmem, -⟩ := shiftTgt_reg_next op r s
  exact ⟨t, ht, hmem⟩

theorem shiftTgt_indHL_storesCells (op : ShiftOp) (s : State) :
    storesCells (shiftCell op s) (shiftTgt op .indHL) s := by
  obtain ⟨t, ht, hmem, -⟩ := shiftTgt_indHL_next op s
  exact ⟨t, ht, hmem⟩

theorem load_storesCells (m : Mode) (r : Reg8) (s : State) : storesCells [] (load m r) s := by
  obtain ⟨t, ht, -, -, -, -, -, hmem, -⟩ := load_next m r s
  exact ⟨t, ht, hmem⟩

theorem store_storesCells (m : Mode) (r : Reg8) (s : State) :
    storesCells [((effAddr m s).1, s.reg r)] (store m r) s := by
  obtain ⟨t, ht, -, -, -, -, -, hmem, -⟩ := store_next m r s
  exact ⟨t, ht, hmem⟩

theorem push_storesCells (p : Pair) (s : State) : storesCells (wordCells (s.sp - 2#16) (s.pair p)) (push p) s := by
  obtain ⟨t, ht, rfl, -⟩ := push_next p s
  exact ⟨_, ht, rfl⟩

/-- Each variant's handler writes to memory the bytes it stores and no other (20 R57). -/
theorem handler_storesCells (mode : ZeroMode) (v : Variant) (s : State) :
    storesCells (storedBytes s v) (handler mode v) s := by
  cases v with
  | add src => exact storesCells_nil_of_aluLeaves (addA_next src s)
  | adc src => exact storesCells_nil_of_aluLeaves (adcA_next src s)
  | sub src => exact storesCells_nil_of_aluLeaves (subA_next src s)
  | and src | xor src | or src => exact storesCells_nil_of_aluLeaves (logicA_next _ src s)
  | rlca | rrca | rla | rra => exact rotateA_storesCells _ s
  | rlc t | rrc t | rl t | rr t | sla t | sra t | srl t =>
    cases t with
    | reg r => exact shiftTgt_reg_storesCells _ r s
    | indHL => exact shiftTgt_indHL_storesCells _ s
  | ldRegIndHL r => exact load_storesCells .indHL r s
  | ldAIndBC | ldAIndDE | ldAIndNN | ldhAIndC | ldhAIndN | ldAIndHLInc | ldAIndHLDec => exact load_storesCells _ .a s
  | ldIndHLReg r => exact store_storesCells .indHL r s
  | ldIndBCA | ldIndDEA | ldIndNNA | ldhIndCA | ldhIndNA | ldIndHLIncA | ldIndHLDecA => exact store_storesCells _ .a s
  | push p => exact push_storesCells p s
  | jpCond cc => exact ⟨_, jumpIf_next cc s, State.setPc_mem ..⟩
  | ldIndHLImm | ldIndNNSP => exact ⟨_, rfl, rfl⟩
  | addHL p | ldRegReg dst src | ldRegImm r | ldPairImm p | ldSPHL | pop p | jp =>
    exact ⟨_, rfl, by simp [storedBytes, State.storeCells]⟩

/-- An operation answers one next state only: what a next state of it is shown to meet, `t` meets. -/
theorem of_op_next {op : State → Result} {s t : State} {Q : State → Prop} (h : op s = .next t)
    (hQ : ∃ t, op s = .next t ∧ Q t) : Q t := by
  obtain ⟨t', ht', hq⟩ := hQ
  exact Host.Outcome.next.inj (ht'.symm.trans h) ▸ hq

section
variable {mode : ZeroMode} {v : Variant} {s t : State}

theorem handler_mem (h : handler mode v s = .next t) : t.mem = (s.storeCells (storedBytes s v)).mem :=
  of_op_next h (handler_storesCells mode v s)

theorem handler_fault (h : handler mode v s = .next t) : t.fault = s.fault :=
  of_op_next h (handler_next mode v s)

/-- Every handler keeps the canonical form (20 R50). -/
theorem handler_wf (h : handler mode v s = .next t) (hm : s.mem.wf = true) : t.mem.wf = true :=
  handler_mem h ▸ s.storeCells_wf hm _

/-- The bytes a handler does not store read as before. -/
theorem handler_memKept (h : handler mode v s = .next t) : memKept (storedAt s v) s t := fun a ha =>
  (State.readByte_of_mem_eq (handler_mem h) a).trans (memKept_storeCells s _ a ha)

/-- The bytes a handler stores read as stored. -/
theorem handler_readByte_stored (h : handler mode v s = .next t) (hm : s.mem.wf = true) {c : Word × Byte}
    (hc : c ∈ storedBytes s v) : t.readByte c.1 = c.2 :=
  (State.readByte_of_mem_eq (handler_mem h) c.1).trans (s.readByte_storeCells hm (storedAt_nodup s v) hc)

end

/-- Settles O27: the handler's memory is the one before with the stored bytes written at distinct addresses. -/
theorem memoryWrittenOnlyWhereStored : Obligations.MemoryWrittenOnlyWhereStored := by
  unfold Obligations.MemoryWrittenOnlyWhereStored
  intro i s t h
  rw [exec_eq_handler] at h
  exact ⟨handler_memKept h, fun hm _ hc => handler_readByte_stored h hm hc⟩

end Sys2Proof.Machine
end

section
/-! The invariant of a step: memory stays canonical, and a latched fault stays justified (20 R50, 60 R281, R282). -/

namespace Sys2Proof.Machine

/-- Taking the exception leaves the bytes at pc that it names where they are (60 R282). -/
theorem takeUnimplemented_faultJustified {T : DecodeTable} {s : State}
    (h : T.decode (fetch s).opcode (fetch s).prefixed = none) :
    (takeUnimplemented s (fetch s).opcode (fetch s).prefixed).FaultJustified T := by
  intro opcode p hf
  obtain ⟨rfl, rfl⟩ : (fetch s).opcode = opcode ∧ (fetch s).prefixed = p := by simpa using hf
  exact ⟨rfl, rfl, h⟩

theorem stepWith_inv {P : Params} {s t : State} (hs : s.Inv P.tables) (h : stepWith P s = .next t) :
    t.Inv P.tables := by
  obtain ⟨hm, -⟩ := hs
  obtain ⟨hrun, ⟨hempty, rfl⟩ | ⟨i, -, ht⟩⟩ := stepWith_cases h
  · exact ⟨hm, takeUnimplemented_faultJustified hempty⟩
  · rw [execUnder_eq_handler] at ht
    exact ⟨handler_wf ht hm, State.faultJustified_of_fault_none ((handler_fault ht).trans hrun) _⟩

/-- Settles O14: a step takes the exception, which changes nothing but the fault it latches, or runs a handler, which
writes memory byte by byte and latches none. -/
theorem stepKeepsTheInvariant : Obligations.StepKeepsTheInvariant := by
  unfold Obligations.StepKeepsTheInvariant
  exact ⟨fun _ _ _ => stepWith_inv, fun _ _ => stepWith_inv⟩

end Sys2Proof.Machine
end

section
/-! A stored byte as the next fetch reads it (20 R60, R63). -/

namespace Sys2Proof.Machine

/-- The fetch of an unprefixed opcode (40 R111). -/
theorem fetch_of_ne_cb {s : State} (h : s.readByte s.pc ≠ 0xCB#8) :
    fetch s = { opcode := s.readByte s.pc, prefixed := false, pc := s.pc + 1#16 } := if_neg h

/-- The fetch behind 0xCB (40 R111). -/
theorem fetch_of_cb {s : State} (h : s.readByte s.pc = 0xCB#8) :
    fetch s = { opcode := s.readByte (s.pc + 1#16), prefixed := true, pc := s.pc + 2#16 } := if_pos h

theorem fetch_pc (s : State) : (fetch s).pc = s.pc + if (fetch s).prefixed then 2#16 else 1#16 := by
  by_cases h : s.readByte s.pc = 0xCB#8
  · rw [fetch_of_cb h]; rfl
  · rw [fetch_of_ne_cb h]; rfl

/-- An instruction's length is that of its opcode, with 0xCB where it has one, and of its operand (30 R81). -/
theorem instr_length_eq (i : Instr) : i.length = (if i.prefixed then 2 else 1) + i.operandWidth := by
  unfold Instr.length Instr.prefixed Instr.operandWidth Variant.prefixed
  cases i.variant.format <;> rfl

/-- Past the opcode and its operand is past the instruction (40 R117). -/
theorem fetch_pc_add_operandWidth {s : State} {i : Instr} (h : i.prefixed = (fetch s).prefixed) :
    (fetch s).pc + BitVec.ofNat 16 i.operandWidth = s.pc + BitVec.ofNat 16 i.length := by
  rw [fetch_pc, ← h, instr_length_eq, BitVec.ofNat_add, BitVec.add_assoc]
  cases i.prefixed <;> rfl

/-- A step with an instruction in the slot runs it (40 R113). -/
theorem stepWith_of_decode {P : Params} {s : State} {i : Instr} (hrun : s.fault = none)
    (hi : P.tables.decode (fetch s).opcode (fetch s).prefixed = some i) :
    stepWith P s = execUnder P.addHlZeroMode i (s.setPc (fetch s).pc) := by
  simp [stepWith, hrun, hi]

/-- No instruction both stores and jumps. -/
theorem takesJump_of_storedBytes {s : State} {v : Variant} {c : Word × Byte} (hc : c ∈ storedBytes s v) (f : Flags) :
    takesJump f v = false := by
  cases v with
  | jp | jpCond cc => cases hc
  | _ => rfl

/-- A handler that stores leaves pc past its operand (40 R117). -/
theorem handler_pc_of_storedBytes {mode : ZeroMode} {v : Variant} {s t : State} (h : handler mode v s = .next t)
    {c : Word × Byte} (hc : c ∈ storedBytes s v) : t.pc = s.pc + BitVec.ofNat 16 v.format.operandWidth := by
  obtain ⟨t', ht', hpc, -⟩ := handler_advancesPc mode v (takesJump_of_storedBytes hc s.f) (x := s.pc) rfl
  exact of_op_next (Q := fun t => t.pc = _) h ⟨t', ht', hpc⟩

/-- Settles O52: the step runs the instruction's handler, after which the stored byte reads as stored and pc is past the
instruction; the next fetch reads memory as the handler left it. -/
theorem storeIsSeenByTheNextFetch : Obligations.StoreIsSeenByTheNextFetch := by
  unfold Obligations.StoreIsSeenByTheNextFetch
  intro annex mode s i hm hrun hi
  obtain ⟨t, ht, hfault⟩ := handler_next mode i.variant (s.setPc (fetch s).pc)
  have hstep : stepWith (Params.standard annex mode) s = .next t :=
    (stepWith_of_decode hrun hi).trans ((execUnder_eq_handler ..).trans ht)
  refine ⟨t, hstep, fun c hc => ?stored, fun j hj => stepWith_of_decode (hfault.trans hrun) hj⟩
  obtain ⟨-, hprefixed, -⟩ := DecodeTable.decode_some hi
  have hpc : t.pc = s.pc + BitVec.ofNat 16 i.length :=
    (handler_pc_of_storedBytes ht hc).trans (fetch_pc_add_operandWidth hprefixed)
  have hread : t.readByte c.1 = c.2 := handler_readByte_stored ht hm hc
  refine ⟨hpc, hread, fun hat hne => ?opcode, fun hat hcb => ?cbByte, fun hat hcb => ?prefixedOpcode⟩
  case opcode =>
    rw [hat] at hread
    rw [fetch_of_ne_cb (hread ▸ hne), hread]
  case cbByte =>
    rw [hat] at hread
    exact fetch_of_cb (hread.trans hcb)
  case prefixedOpcode =>
    rw [hat] at hread
    rw [fetch_of_cb hcb, hread]

end Sys2Proof.Machine
end

section
/-! The decoder on byte lists and the encoder agree (30 R80 to R91). -/

namespace Sys2Proof

@[simp] theorem decodeBytes_nil (T : DecodeTable) : decodeBytes T [] = .error .truncated := rfl

@[simp] theorem decodeBytes_cb (T : DecodeTable) : decodeBytes T [0xCB#8] = .error .truncated := rfl

/-- Behind 0xCB the opcode is the second byte (30 R80, R82). -/
theorem decodeBytes_cb_cons (T : DecodeTable) (x : Byte) (bs : List Byte) :
    decodeBytes T (0xCB#8 :: x :: bs) = decodeOperand T x true bs := rfl

theorem decodeBytes_of_ne_cb (T : DecodeTable) {b : Byte} (hb : b ≠ 0xCB#8) (bs : List Byte) :
    decodeBytes T (b :: bs) = decodeOperand T b false bs := if_neg hb

/-- 0xCB is the opcode of no instruction, so as a first byte it always announces the second table (30 R82, R88). -/
theorem Instr.opcode_ne_cb (i : Instr) : i.opcode ≠ 0xCB#8 := by
  obtain ⟨-, -, hne, -⟩ := Laws.TableRow.all i
  exact hne

/-- An encoding begins with 0xCB only where the instruction is of the second table. -/
theorem cb_cons_eq_encode_iff (bs : List Byte) (c : Code) (rest : List Byte) :
    0xCB#8 :: bs = encode c ++ rest ↔ c.instr.prefixed = true ∧ bs = c.instr.opcode :: (c.operand ++ rest) := by
  cases hp : c.instr.prefixed with
  | true => simp [encode, Instr.opcodeBytes, hp]
  | false => simp [encode, Instr.opcodeBytes, hp, (Instr.opcode_ne_cb c.instr).symm]

theorem cons_eq_encode_iff {b : Byte} (hb : b ≠ 0xCB#8) (bs : List Byte) (c : Code) (rest : List Byte) :
    b :: bs = encode c ++ rest ↔ c.instr.opcode = b ∧ c.instr.prefixed = false ∧ bs = c.operand ++ rest := by
  cases hp : c.instr.prefixed with
  | true => simp [encode, Instr.opcodeBytes, hp, hb]
  | false => simp [encode, Instr.opcodeBytes, hp, eq_comm]

theorem encode_ne_nil (c : Code) : encode c ≠ [] := by
  unfold encode Instr.opcodeBytes
  split <;> simp

/-- Settles O2: the first byte says which table the opcode is looked up in and, in the same way, where an encoding has
its opcode; what remains on both sides is the slot and the operand behind it. -/
theorem decodeAndEncodeAgree : Obligations.DecodeAndEncodeAgree := by
  unfold Obligations.DecodeAndEncodeAgree
  intro annex bytes c rest
  cases bytes with
  | nil => simp [encode_ne_nil, eq_comm (a := ([] : List Byte))]
  | cons b bs =>
    by_cases hb : b = 0xCB#8
    · subst hb
      rw [cb_cons_eq_encode_iff]
      cases bs with
      | nil => simp
      | cons x bs =>
        rw [decodeBytes_cb_cons, decodeOperand_ok_iff, List.cons.injEq, eq_comm (a := x), and_left_comm (a := _ = x)]
    · rw [decodeBytes_of_ne_cb _ hb, decodeOperand_ok_iff, cons_eq_encode_iff hb]

/-- Settles O1: each word is the encoding of its instruction and operand, and the two slots are empty. -/
theorem decodesWordsOfTheSpec : Obligations.DecodesWordsOfTheSpec := by
  unfold Obligations.DecodesWordsOfTheSpec tableInForce
  simp only [decodeAndEncodeAgree true _ _ _]
  decide

end Sys2Proof
end

section
/-! The length of an instruction (30 R81, R91). -/

namespace Sys2Proof

/-- A well-formed instruction is encoded in as many bytes as its format says (30 R81). -/
theorem length_encode {annex : Bool} {c : Code} (hc : c.wf annex = true) : (encode c).length = c.instr.length := by
  obtain ⟨-, hw⟩ : c.instr.admitted annex = true ∧ c.operand.length = c.instr.operandWidth := by
    simpa [Code.wf, Code.operandFits] using hc
  obtain ⟨-, -, -, hlen⟩ := Laws.TableRow.all c.instr
  rw [encode, List.length_append, hw, hlen]

/-- An instruction behind 0xCB has no operand and takes two bytes (30 R81, 47 R250). -/
theorem Instr.length_of_prefixed {i : Instr} (h : i.prefixed = true) : i.length = 2 := by
  have hf : i.variant.format = .cbOp := by simpa [Instr.prefixed, Variant.prefixed] using h
  rw [Instr.length, hf]; rfl

/-- An empty slot is refused whatever follows it (30 R90). -/
theorem decodeOperand_of_none {T : DecodeTable} {o : Byte} {p : Bool} (h : T.decode o p = none) (bs : List Byte) :
    decodeOperand T o p bs = .error (.emptySlot o p) := by
  rw [decodeOperand, h]

/-- Settles O6: what decodes is an encoding and the rest behind it, whose length and table the first byte gives. -/
theorem lengthFromTheFirstByte : Obligations.LengthFromTheFirstByte := by
  unfold Obligations.LengthFromTheFirstByte
  refine ⟨fun annex b bs c rest h => ?decoded, fun annex b bs hb hnone => ?empty, fun annex x bs hnone => ?emptyCb⟩
  case decoded =>
    obtain ⟨hwf, hbytes⟩ := (decodeAndEncodeAgree annex _ _ _).mp h
    have hlen := length_encode hwf
    refine ⟨?_, ?_, fun hb => ?_, fun hb => ?_⟩
    · rw [hbytes, List.length_append, hlen]
    · rw [hbytes, ← hlen, List.drop_left]
    · subst hb
      exact Instr.length_of_prefixed ((cb_cons_eq_encode_iff ..).mp hbytes).1
    · obtain ⟨rfl, hp, -⟩ := (cons_eq_encode_iff hb ..).mp hbytes
      rw [← hp]
      exact DecodeTable.decode_opcode annex _ (Bool.and_eq_true_iff.mp hwf).1
  case empty => rw [decodeBytes_of_ne_cb _ hb, decodeOperand_of_none hnone]
  case emptyCb => rw [decodeBytes_cb_cons, decodeOperand_of_none hnone]

end Sys2Proof
end

section
/-! The tables slot by slot (30 R84, R87, R88, R90, 47 R230, R250). -/

namespace Sys2Proof

theorem mem_map_ofNat_iff {l : List Nat} (hl : ∀ n ∈ l, n < 256) (x : Byte) :
    x ∈ l.map (BitVec.ofNat 8) ↔ x.toNat ∈ l := by
  rw [List.mem_map]
  constructor
  · rintro ⟨n, hn, rfl⟩
    rwa [BitVec.toNat_ofNat, Nat.mod_eq_of_lt (hl n hn)]
  · exact fun h => ⟨x.toNat, h, by simp⟩

/-- The 256 opcode bytes in order. -/
def allBytes : List Byte := (List.range 256).map (BitVec.ofNat 8)

@[simp] theorem mem_allBytes (x : Byte) : x ∈ allBytes :=
  (mem_map_ofNat_iff (fun _ => List.mem_range.mp) x).mpr (List.mem_range.mpr x.isLt)

theorem nodup_allBytes : allBytes.Nodup := by
  refine List.Nodup.map_on (fun m hm n hn h => ?_) List.nodup_range
  have hmod : m % 256 = n % 256 := congrArg BitVec.toNat h
  rw [List.mem_range] at hm hn
  omega

theorem DecodeTable.entries_eq (T : DecodeTable) (p : Bool) :
    T.entries p = allBytes.filterMap fun x => (T.decode x p).map Instr.variant := by
  rw [allBytes, List.filterMap_map]; rfl

/-- The check on one table: its instructions are without repetition exactly when no slot shares its value with another
(30 R84). -/
theorem DecodeTable.nodup_entries_iff (T : DecodeTable) (p : Bool) :
    (T.entries p).Nodup ↔ ∀ (x y : Byte) (i j : Instr), T.decode x p = some i → T.decode y p = some j →
      i.variant = j.variant → x = y := by
  rw [T.entries_eq]
  constructor
  · intro h x y i j hi hj hij
    have : Std.Symm fun x y : Byte => ∀ v, (T.decode x p).map Instr.variant = some v →
        ∀ w, (T.decode y p).map Instr.variant = some w → v ≠ w := ⟨fun _ _ h v hv w hw => (h w hw v hv).symm⟩
    by_contra hxy
    have hne := (List.pairwise_filterMap.mp h).forall (mem_allBytes x) (mem_allBytes y) hxy
    exact hne i.variant (by rw [hi]; rfl) j.variant (by rw [hj]; rfl) hij
  · intro h
    refine nodup_allBytes.filterMap fun x y v hx hy => ?_
    obtain ⟨i, hi, rfl⟩ := Option.map_eq_some_iff.mp hx
    obtain ⟨j, hj, hij⟩ := Option.map_eq_some_iff.mp hy
    exact h x y i j hi hj hij.symm

/-- The check made when a table is built decides the invariant (30 R84, 60 R285). -/
theorem DecodeTable.legal_iff (T : DecodeTable) : T.legal = true ↔ T.Legal := by
  simp only [DecodeTable.legal, Bool.and_eq_true, decide_eq_true_eq, nodup_entries_iff, DecodeTable.Legal,
    Bool.forall_bool]

/-- Settles O3: the check decides the invariant, every parameter value has passed it, and construction tests it. -/
theorem noInstructionInTwoSlots : Obligations.NoInstructionInTwoSlots := by
  unfold Obligations.NoInstructionInTwoSlots
  refine ⟨fun annex => ?_, fun P => P.tables.legal_iff.mp P.legal, fun T mode => ⟨fun h => ?_, fun h => ?_⟩⟩
  · exact (DecodeTable.legal_iff _).mp (DecodeTable.standard_legal annex)
  · exact ⟨_, dif_pos (T.legal_iff.mpr h), rfl, rfl⟩
  · exact dif_neg (mt T.legal_iff.mp h)

/-- A slot is filled exactly when a row names it. -/
theorem slot_isSome_iff (rows : List (Byte × Instr)) (x : Byte) :
    (slot rows x).isSome = true ↔ x ∈ rows.map Prod.fst := by
  induction rows with
  | nil => simp [slot]
  | cons row rows ih =>
    by_cases hx : x = row.1
    · simp [slot, hx]
    · simp [slot, hx, ih]

/-- Rows with different opcode bytes fill as many slots as there are rows. -/
theorem countP_slot_isSome {rows : List (Byte × Instr)} (h : (rows.map Prod.fst).Nodup) :
    ((List.range 256).countP fun n => (slot rows (BitVec.ofNat 8 n)).isSome) = rows.length := by
  have hperm : (allBytes.filter fun x => (slot rows x).isSome).Perm (rows.map Prod.fst) :=
    (List.perm_ext_iff_of_nodup (nodup_allBytes.filter _) h).mpr fun x => by simp [slot_isSome_iff]
  calc
    _ = allBytes.countP fun x => (slot rows x).isSome := by rw [allBytes, List.countP_map]; rfl
    _ = rows.length := by rw [List.countP_eq_length_filter, hperm.length_eq, List.length_map]

theorem nodup_annexed_opcodes : ((normativeRows ++ annexRows).map Prod.fst).Nodup := by decide +kernel

theorem nodup_normative_opcodes : (normativeRows.map Prod.fst).Nodup :=
  nodup_annexed_opcodes.sublist ((List.sublist_append_left ..).map _)

/-- The annex rows of the second table stand in order of their opcode bytes (47 R250). -/
theorem annexCbRows_opcodes :
    annexCbRows.map Prod.fst = (List.range 0x30 ++ List.range' 0x38 8).map (BitVec.ofNat 8) := rfl

theorem DecodeTable.decode_prefixed_isSome_iff (x : Byte) :
    ((DecodeTable.standard true).decode x true).isSome = true ↔
      x.toNat ≤ 0x2F ∨ (0x38 ≤ x.toNat ∧ x.toNat ≤ 0x3F) := by
  refine (slot_isSome_iff annexCbRows x).trans ?_
  rw [annexCbRows_opcodes, mem_map_ofNat_iff (by decide), List.mem_append, List.mem_range, List.mem_range'_1]
  omega

/-- No instruction of the first table stands at 0xCB (30 R82). -/
theorem DecodeTable.decode_cb_eq_none (annex : Bool) : (DecodeTable.standard annex).decode 0xCB#8 false = none := by
  cases h : (DecodeTable.standard annex).decode 0xCB#8 false with
  | none => rfl
  | some i => exact absurd (DecodeTable.decode_some h).1 i.opcode_ne_cb

/-- Settles O5: no two rows share an opcode byte, so the filled slots are counted by the rows. -/
theorem firstTableHas134Instructions : Obligations.FirstTableHas134Instructions := by
  unfold Obligations.FirstTableHas134Instructions
  have hfilled : ((List.range 256).countP fun n =>
      ((DecodeTable.standard false).decode (BitVec.ofNat 8 n) false).isSome) = 134 :=
    countP_slot_isSome nodup_normative_opcodes
  refine ⟨hfilled, ?_, countP_slot_isSome nodup_annexed_opcodes, DecodeTable.decode_cb_eq_none⟩
  have hall := (List.range 256).length_eq_countP_add_countP fun n =>
    ((DecodeTable.standard false).decode (BitVec.ofNat 8 n) false).isSome
  simp only [List.length_range, hfilled, Bool.not_eq_true, Option.isSome_eq_false_iff, Bool.decide_eq_true] at hall
  omega

end Sys2Proof
end

section
/-! The step's fetch and the decoder on byte lists, on the bytes at pc (40 R111 to R113). -/

namespace Sys2Proof.Machine

/-- A step on an empty slot takes the exception (40 R112). -/
theorem stepWith_of_empty {P : Params} {s : State} (hrun : s.fault = none)
    (h : P.tables.decode (fetch s).opcode (fetch s).prefixed = none) :
    stepWith P s = .next (takeUnimplemented s (fetch s).opcode (fetch s).prefixed) := by
  simp [stepWith, hrun, h]

/-- Settles O4: the rows of the second table are the annex's; without them every slot is empty, and the step takes the
exception. -/
theorem secondTableSlots : Obligations.SecondTableSlots := by
  unfold Obligations.SecondTableSlots
  have hempty : ∀ x : Byte, (DecodeTable.standard false).decode x true = none := fun _ => rfl
  refine ⟨hempty, fun x => ?_, fun mode s hrun hcb => ?_⟩
  · rw [Bool.eq_iff_iff, decide_eq_true_iff, DecodeTable.decode_prefixed_isSome_iff]
  · have hfetch := fetch_of_cb hcb
    rw [stepWith_of_empty hrun (by rw [hfetch]; exact hempty _), hfetch, takeUnimplemented]

theorem State.length_loadBytes (s : State) (n : Nat) (a : Word) : (s.loadBytes n a).length = n := by
  induction n generalizing a with
  | zero => rfl
  | succ n ih => simp [State.loadBytes, ih]

theorem State.take_loadBytes (s : State) {k n : Nat} (h : k ≤ n) (a : Word) :
    (s.loadBytes n a).take k = s.loadBytes k a := by
  induction k generalizing n a with
  | zero => rfl
  | succ k ih =>
    obtain ⟨n, rfl⟩ : ∃ m, n = m + 1 := ⟨n - 1, by omega⟩
    simp [State.loadBytes, ih (Nat.le_of_succ_le_succ h)]

/-- The byte decoder looks up the fetched opcode and reads the operand where the fetch leaves pc (40 R111). -/
theorem decodeBytes_loadBytes (T : DecodeTable) (s : State) :
    decodeBytes T (s.loadBytes 3 s.pc) = decodeOperand T (fetch s).opcode (fetch s).prefixed
      (s.loadBytes (if (fetch s).prefixed then 1 else 2) (fetch s).pc) := by
  by_cases h : s.readByte s.pc = 0xCB#8
  · simp [fetch_of_cb h, State.loadBytes, h, decodeBytes_cb_cons, BitVec.add_assoc]
  · simp [fetch_of_ne_cb h, State.loadBytes, decodeBytes_of_ne_cb T h]

/-- No operand is longer than what three bytes leave behind the opcode (30 R81). -/
theorem operandWidth_le (i : Instr) : i.operandWidth ≤ if i.prefixed then 1 else 2 := by
  unfold Instr.prefixed Instr.operandWidth Variant.prefixed
  cases i.variant.format <;> decide

/-- With an instruction in the fetched slot, the bytes at pc decode to it and to the operand its handler finds at pc. -/
theorem decodeBytes_loadBytes_of_decode {annex : Bool} {s : State} {i : Instr}
    (hi : (DecodeTable.standard annex).decode (fetch s).opcode (fetch s).prefixed = some i) :
    ∃ rest, decodeBytes (DecodeTable.standard annex) (s.loadBytes 3 s.pc) =
      .ok (⟨i, s.loadBytes i.operandWidth (fetch s).pc⟩, rest) := by
  obtain ⟨hopcode, hprefixed, hadmitted⟩ := DecodeTable.decode_some hi
  rw [decodeBytes_loadBytes, ← hprefixed]
  refine ⟨(s.loadBytes (if i.prefixed then 1 else 2) (fetch s).pc).drop i.operandWidth,
    (decodeOperand_ok_iff ..).mpr ⟨?wf, hopcode, rfl, ?bytes⟩⟩
  case wf => simp [Code.wf, Code.operandFits, hadmitted, State.length_loadBytes]
  case bytes => rw [← s.take_loadBytes (operandWidth_le i), List.take_append_drop]

/-- The fetch leaves pc past the bytes that select the instruction (40 R111). -/
theorem fetch_pc_eq_add_opcodeBytes {s : State} {i : Instr} (h : i.prefixed = (fetch s).prefixed) :
    (fetch s).pc = s.pc + BitVec.ofNat 16 i.opcodeBytes.length := by
  rw [fetch_pc, ← h, Instr.opcodeBytes]
  cases i.prefixed <;> rfl

/-- Settles O8: step and decoder look up the fetched opcode in one table; where it is filled, three bytes hold the
operand too, and where it is empty both name the slot. -/
theorem stepAgreesWithTheByteDecoder : Obligations.StepAgreesWithTheByteDecoder := by
  unfold Obligations.StepAgreesWithTheByteDecoder
  intro annex mode s hrun
  cases hd : (DecodeTable.standard annex).decode (fetch s).opcode (fetch s).prefixed with
  | none =>
    have hstep := stepWith_of_empty (P := Params.standard annex mode) hrun hd
    rw [decodeBytes_loadBytes, decodeOperand_of_none hd]
    refine ⟨nofun, fun x p h => ?_, nofun⟩
    cases h
    exact hstep
  | some i =>
    obtain ⟨bs, hbytes⟩ := decodeBytes_loadBytes_of_decode hd
    obtain ⟨-, hprefixed, -⟩ := DecodeTable.decode_some hd
    have hwf := ((decodeAndEncodeAgree annex _ _ _).mp hbytes).1
    rw [hbytes]
    refine ⟨fun c rest h => ?_, nofun, nofun⟩
    cases h
    rw [← fetch_pc_eq_add_opcodeBytes hprefixed]
    exact ⟨hwf, stepWith_of_decode (P := Params.standard annex mode) hrun hd, rfl⟩

end Sys2Proof.Machine
end

section
/-! What a step does, by what the fetched slot holds (40 R110 to R113, R120). -/

namespace Sys2Proof.Machine

/-- The mode in force is a mode like any other: a statement about every handler is one about `exec`. -/
theorem exec_eq_execUnder (i : Instr) (s : State) : exec i s = execUnder addHlZeroMode i s := by
  rw [exec_eq_handler, execUnder_eq_handler]

theorem execUnder_next (mode : ZeroMode) (i : Instr) (s : State) :
    ∃ t, execUnder mode i s = .next t ∧ t.fault = s.fault := by
  rw [execUnder_eq_handler]
  exact handler_next mode i.variant s

/-- Settles O12: `exec` is the handler under the mode in force, and every handler answers a next state. -/
theorem everyHandlerCompletes : Obligations.EveryHandlerCompletes := by
  unfold Obligations.EveryHandlerCompletes
  refine ⟨fun i s => ?_, execUnder_next⟩
  rw [exec_eq_execUnder]
  exact execUnder_next addHlZeroMode i s

section
variable {s : State}

/-- The first table is looked up at a byte that is not 0xCB (40 R111). -/
theorem decode_fetch_of_ne_cb (T : DecodeTable) (h : s.readByte s.pc ≠ 0xCB#8) :
    T.decode (fetch s).opcode (fetch s).prefixed = T.unprefixed (s.readByte s.pc) := by
  rw [fetch_of_ne_cb h]; rfl

/-- The second table is looked up at the byte behind 0xCB (40 R111). -/
theorem decode_fetch_of_cb (T : DecodeTable) (h : s.readByte s.pc = 0xCB#8) :
    T.decode (fetch s).opcode (fetch s).prefixed = T.cb (s.readByte (s.pc + 1#16)) := by
  rw [fetch_of_cb h]; rfl

theorem stepWith_of_unprefixed_some {P : Params} {i : Instr} (hrun : s.fault = none)
    (hcb : s.readByte s.pc ≠ 0xCB#8) (hi : P.tables.unprefixed (s.readByte s.pc) = some i) :
    stepWith P s = execUnder P.addHlZeroMode i { s with pc := s.pc + 1#16 } := by
  rw [stepWith_of_decode hrun ((decode_fetch_of_ne_cb P.tables hcb).trans hi), fetch_of_ne_cb hcb, State.setPc]

theorem stepWith_of_cb_some {P : Params} {i : Instr} (hrun : s.fault = none)
    (hcb : s.readByte s.pc = 0xCB#8) (hi : P.tables.cb (s.readByte (s.pc + 1#16)) = some i) :
    stepWith P s = execUnder P.addHlZeroMode i { s with pc := s.pc + 2#16 } := by
  rw [stepWith_of_decode hrun ((decode_fetch_of_cb P.tables hcb).trans hi), fetch_of_cb hcb, State.setPc]

theorem stepWith_of_unprefixed_none {P : Params} (hrun : s.fault = none)
    (hcb : s.readByte s.pc ≠ 0xCB#8) (h : P.tables.unprefixed (s.readByte s.pc) = none) :
    stepWith P s = .next (takeUnimplemented s (s.readByte s.pc) false) := by
  rw [stepWith_of_empty hrun ((decode_fetch_of_ne_cb P.tables hcb).trans h), fetch_of_ne_cb hcb]

theorem stepWith_of_cb_none {P : Params} (hrun : s.fault = none)
    (hcb : s.readByte s.pc = 0xCB#8) (h : P.tables.cb (s.readByte (s.pc + 1#16)) = none) :
    stepWith P s = .next (takeUnimplemented s (s.readByte (s.pc + 1#16)) true) := by
  rw [stepWith_of_empty hrun ((decode_fetch_of_cb P.tables hcb).trans h), fetch_of_cb hcb]

end

/-- Settles O7: the fetched slot holds the instruction, which runs from where the fetch leaves pc; `step` is this with
the parameters in force. -/
theorem stepRunsTheDecodedInstruction : Obligations.StepRunsTheDecodedInstruction := by
  unfold Obligations.StepRunsTheDecodedInstruction
  refine ⟨fun P s i hrun => ⟨stepWith_of_unprefixed_some hrun, stepWith_of_cb_some hrun⟩,
    fun s i hrun => ?_, fun _ => rfl⟩
  rw [exec_eq_execUnder, exec_eq_execUnder]
  exact ⟨stepWith_of_unprefixed_some hrun, stepWith_of_cb_some hrun⟩

/-- Settles O9: the exception is taken on the state before the step, and names the slot the fetch looked up. -/
theorem emptySlotTakesTheException : Obligations.EmptySlotTakesTheException := by
  unfold Obligations.EmptySlotTakesTheException
  exact fun P s hrun => ⟨stepWith_of_unprefixed_none hrun, stepWith_of_cb_none hrun⟩

theorem stepWith_of_fault (P : Params) {s : State} {f : Fault} (h : s.fault = some f) : stepWith P s = .fault f := by
  simp [stepWith, h]

theorem stepWith_next (P : Params) {s : State} (hrun : s.fault = none) : ∃ t, stepWith P s = .next t := by
  cases hd : P.tables.decode (fetch s).opcode (fetch s).prefixed with
  | none => exact ⟨_, stepWith_of_empty hrun hd⟩
  | some i =>
    obtain ⟨t, ht, -⟩ := execUnder_next P.addHlZeroMode i (s.setPc (fetch s).pc)
    exact ⟨t, (stepWith_of_decode hrun hd).trans ht⟩

theorem stepWith_ne_refused (P : Params) (s : State) (r : Refusal) : stepWith P s ≠ .refused r := by
  cases hf : s.fault with
  | none =>
    obtain ⟨t, ht⟩ := stepWith_next P hf
    simp [ht]
  | some f => simp [stepWith_of_fault P hf]

theorem runWith_ne_refused (P : Params) (s : State) (k : Nat) (r : Refusal) : runWith P k s ≠ .refused r := by
  induction k generalizing s with
  | zero => simp [runWith]
  | succ k ih =>
    rw [runWith]
    cases hstep : stepWith P s with
    | next t => exact ih t
    | fault f => simp
    | refused r' => exact absurd hstep (stepWith_ne_refused P s r')

/-- Settles O13: the fetched slot is empty, or its instruction completes; so no step of a run is refused. -/
theorem stepIsTotal : Obligations.StepIsTotal := by
  unfold Obligations.StepIsTotal
  exact fun P => ⟨fun _ => stepWith_next P, fun s k r => ⟨stepWith_ne_refused P s r, runWith_ne_refused P s k r⟩⟩

end Sys2Proof.Machine
end

section
/-! The instructions that write no flag (40 R119). -/

namespace Sys2Proof.Machine

theorem load_f (m : Mode) (r : Reg8) (s : State) : ∃ t, load m r s = .next t ∧ t.f = s.f :=
  ⟨_, rfl, by simp⟩

theorem store_f (m : Mode) (r : Reg8) (s : State) : ∃ t, store m r s = .next t ∧ t.f = s.f :=
  ⟨_, rfl, by simp⟩

/-- POP into a pair other than AF (45 R213). -/
theorem pop_f_of_ne_af {p : Pair} (hp : p ≠ .af) (s : State) : ∃ t, pop p s = .next t ∧ t.f = s.f :=
  ⟨_, rfl, State.setPair_f_of_ne_af _ p _ hp⟩

/-- The handler of a variant outside the table of 10 R35 keeps the flags. -/
theorem handler_f (mode : ZeroMode) (v : Variant) (s : State) (hv : writesFlags v = false) :
    ∃ t, handler mode v s = .next t ∧ t.f = s.f := by
  cases v with
  | add | adc | sub | and | xor | or | addHL | rlca | rrca | rla | rra
  | rlc | rrc | rl | rr | sla | sra | srl => cases hv
  | pop p =>
    have hp : p ≠ .af := by rintro rfl; cases hv
    exact pop_f_of_ne_af hp s
  | ldRegIndHL r => exact load_f .indHL r s
  | ldAIndBC | ldAIndDE | ldAIndNN | ldhAIndC | ldhAIndN | ldAIndHLInc | ldAIndHLDec => exact load_f _ .a s
  | ldIndHLReg r => exact store_f .indHL r s
  | ldIndBCA | ldIndDEA | ldIndNNA | ldhIndCA | ldhIndNA | ldIndHLIncA | ldIndHLDecA => exact store_f _ .a s
  | jpCond cc => exact ⟨_, jumpIf_next cc s, State.setPc_f ..⟩
  | ldRegReg | ldRegImm | ldIndHLImm | ldPairImm | ldIndNNSP | ldSPHL | push | jp => exact ⟨_, rfl, by simp⟩

/-- Settles O25: of the variants only those `writesFlags` names reach the flags. -/
theorem flagsWrittenOnlyWhereNamed : Obligations.FlagsWrittenOnlyWhereNamed := by
  unfold Obligations.FlagsWrittenOnlyWhereNamed
  exact fun i s t hv h => of_exec_next h (handler_f addHlZeroMode i.variant s hv)

end Sys2Proof.Machine
end

section
/-! pc after a step (40 R117, R118). -/

namespace Sys2Proof.Machine

/-- A handler leaves pc at the operand of a jump taken, and otherwise past its operand (40 R117). -/
theorem handler_pc {mode : ZeroMode} {v : Variant} {s t : State} (h : handler mode v s = .next t) :
    t.pc = if takesJump s.f v then s.readWord s.pc else s.pc + BitVec.ofNat 16 v.format.operandWidth := by
  cases hj : takesJump s.f v with
  | true =>
    obtain ⟨hjump, -⟩ := handler_setPc_of_takesJump mode v hj (x := s.pc) rfl
    exact of_op_next (Q := fun t => t.pc = s.readWord s.pc) h ⟨_, hjump, rfl⟩
  | false =>
    obtain ⟨t', ht', hpc, -⟩ := handler_advancesPc mode v hj (x := s.pc) rfl
    exact of_op_next (Q := fun t => t.pc = s.pc + _) h ⟨t', ht', hpc⟩

/-- The jumps stand in the first table (30 R87). -/
theorem prefixed_eq_false_of_takesJump {f : Flags} {i : Instr} (h : takesJump f i.variant = true) :
    i.prefixed = false := by
  unfold Instr.prefixed
  cases hv : i.variant with
  | jp | jpCond cc => rfl
  | _ => rw [hv] at h; cases h

/-- A step that runs `i` leaves pc at the word behind the opcode if `i` jumps, and past the instruction if not. -/
theorem stepWith_pc_of_decode {annex : Bool} {mode : ZeroMode} {s t : State} {i : Instr} (hrun : s.fault = none)
    (hi : (DecodeTable.standard annex).decode (fetch s).opcode (fetch s).prefixed = some i)
    (h : stepWith (Params.standard annex mode) s = .next t) :
    t.pc = if takesJump s.f i.variant then s.readWord (s.pc + 1#16) else s.pc + BitVec.ofNat 16 i.length := by
  obtain ⟨-, hprefixed, -⟩ := DecodeTable.decode_some hi
  rw [stepWith_of_decode hrun hi, execUnder_eq_handler] at h
  rw [handler_pc h, ← fetch_pc_add_operandWidth hprefixed]
  refine ite_congr rfl (fun hj => ?_) fun _ => rfl
  have hpc : (fetch s).pc = s.pc + 1#16 := by
    rw [fetch_pc, ← hprefixed, prefixed_eq_false_of_takesJump hj]; rfl
  rw [State.setPc_readWord, State.setPc_pc, hpc]

/-- Settles O28: a next state is that of the instruction in the fetched slot, or the state before with the fault
latched. -/
theorem pcAfterAStep : Obligations.PcAfterAStep := by
  unfold Obligations.PcAfterAStep
  intro annex mode s t h
  obtain ⟨hrun, -⟩ := stepWith_cases h
  refine ⟨fun i hi => stepWith_pc_of_decode hrun hi h, fun hempty => ?_⟩
  rw [stepWith_of_empty hrun hempty] at h
  cases h
  rfl

end Sys2Proof.Machine
end

section
/-! The encoding an instruction rule gives (30 R80, R87, 41 R142 to R150). -/

namespace Sys2Proof.Machine

theorem encodedAs_self (i : Instr) : encodedAs i i.prefixed i.opcode i.operandWidth :=
  ⟨fun annex h => DecodeTable.decode_opcode annex i h, rfl, rfl⟩

/-- An instruction with an ALU operand stands in the first table; its opcode is the pattern's (30 R87), and an immediate
is the one operand byte it can have. -/
theorem encodedAs_of_srcFormat {i : Instr} {src : Src8} {x : Byte} (hformat : i.variant.format = srcFormat src)
    (hopcode : i.opcode = x) : encodedAs i false x (srcWidth src) := by
  have hprefixed : i.prefixed = false := by
    rw [Instr.prefixed, Variant.prefixed, hformat]
    cases src <;> rfl
  have hwidth : i.operandWidth = srcWidth src := congrArg Format.operandWidth hformat
  rw [← hprefixed, ← hopcode, ← hwidth]
  exact encodedAs_self i

/-- A rule for the three operand forms at once: if the family's instructions do `P` with what `readSrc` reads, then so do
its rows, each under the opcode byte the encoder gives it. -/
theorem encoded_and_forall_operand_forms {family : Src8 → Variant} {P : Instr → State → Byte → Word → Prop}
    (hformat : ∀ src, (family src).format = srcFormat src)
    (hP : ∀ {i : Instr} {src : Src8}, i.variant = family src → ∀ s, P i s (readSrc src s).1 (readSrc src s).2.pc)
    {rows : List (Instr × Byte × Reg8)} {iHL iImm : Instr} {xHL xImm : Byte}
    (hrows : ∀ p ∈ rows, p.1.variant = family (.reg p.2.2) ∧ p.1.opcode = p.2.1)
    (hHL : iHL.variant = family .indHL ∧ iHL.opcode = xHL) (hImm : iImm.variant = family .imm ∧ iImm.opcode = xImm) :
    (∀ p ∈ rows, encodedAs p.1 false p.2.1 0 ∧ ∀ s, P p.1 s (s.reg p.2.2) s.pc) ∧
      (encodedAs iHL false xHL 0 ∧ ∀ s, P iHL s (s.readByte (s.pair .hl)) s.pc) ∧
      (encodedAs iImm false xImm 1 ∧ ∀ s, P iImm s (s.readByte s.pc) (s.pc + 1#16)) := by
  have hform : ∀ {i : Instr} {src : Src8} {x : Byte}, i.variant = family src ∧ i.opcode = x →
      encodedAs i false x (srcWidth src) ∧ ∀ s, P i s (readSrc src s).1 (readSrc src s).2.pc :=
    fun {i src x} ⟨hv, hx⟩ => ⟨encodedAs_of_srcFormat (hv ▸ hformat src) hx, hP hv⟩
  exact ⟨fun p hp => hform (hrows p hp), hform hHL, hform hImm⟩

end Sys2Proof.Machine
end

section
/-! ADD, ADC and SUB on A: one lemma per operation, over its operand forms (41 R140 to R150). -/

namespace Sys2Proof.Machine

open Claims

section
variable {i : Instr} {s t : State} {src : Src8}

theorem memKept_of_mem_eq (h : t.mem = s.mem) : memKept [] s t := fun a _ => State.readByte_of_mem_eq h a

theorem AluLeaves.regsKept {r : AluResult} (h : AluLeaves r src s t) : regsKept [.a] s t :=
  fun q hq => h.regs q (List.ne_of_not_mem_cons hq)

theorem AluLeaves.pc_readSrc {r : AluResult} (h : AluLeaves r src s t) : t.pc = (readSrc src s).2.pc :=
  h.pc.trans (readSrc_pc src s).symm

theorem addsToA_of_aluLeaves {y : Byte} {cin : Bool} (ht : exec i s = .next t)
    (h : AluLeaves (add8 (s.reg .a) y cin) src s t) : addsToA i s y cin.toNat (readSrc src s).2.pc := by
  have hf := h.flags.trans (add8_f ..)
  refine ⟨t, ht, ?_, ?_, ?_, ?_, ?_, h.pc_readSrc, h.sp, h.fault, h.regsKept, memKept_of_mem_eq h.mem⟩
  · rw [h.acc, add8_res]
  all_goals rw [hf]

theorem subsFromA_of_aluLeaves {y : Byte} (ht : exec i s = .next t)
    (h : AluLeaves (sub8 (s.reg .a) y) src s t) : subsFromA i s y (readSrc src s).2.pc := by
  have hf := h.flags.trans (sub8_f ..)
  refine ⟨t, ht, ?_, ?_, ?_, ?_, ?_, h.pc_readSrc, h.sp, h.fault, h.regsKept, memKept_of_mem_eq h.mem⟩
  · rw [h.acc, sub8_res]
  all_goals rw [hf]

theorem addsToA_of_variant_add (hv : i.variant = .add src) (s : State) :
    addsToA i s (readSrc src s).1 0 (readSrc src s).2.pc := by
  obtain ⟨t, ht, h⟩ := addA_next src s
  exact addsToA_of_aluLeaves (by rw [exec_eq_handler, hv]; exact ht) h

theorem addsToA_of_variant_adc (hv : i.variant = .adc src) (s : State) :
    addsToA i s (readSrc src s).1 s.f.c.toNat (readSrc src s).2.pc := by
  obtain ⟨t, ht, h⟩ := adcA_next src s
  exact addsToA_of_aluLeaves (by rw [exec_eq_handler, hv]; exact ht) h

theorem subsFromA_of_variant_sub (hv : i.variant = .sub src) (s : State) :
    subsFromA i s (readSrc src s).1 (readSrc src s).2.pc := by
  obtain ⟨t, ht, h⟩ := subA_next src s
  exact subsFromA_of_aluLeaves (by rw [exec_eq_handler, hv]; exact ht) h

end

/-- Settles O31: each row is ADD of its operand form. -/
theorem addToAccumulator : Obligations.AddToAccumulator := by
  unfold Obligations.AddToAccumulator
  exact encoded_and_forall_operand_forms (family := .add) (P := fun i s y pc => addsToA i s y 0 pc)
    (fun _ => rfl) addsToA_of_variant_add (by decide) ⟨rfl, rfl⟩ ⟨rfl, rfl⟩

/-- Settles O32: each row is ADC of its operand form, with the carry it starts from as the third addend. -/
theorem adcToAccumulator : Obligations.AdcToAccumulator := by
  unfold Obligations.AdcToAccumulator
  exact encoded_and_forall_operand_forms (family := .adc) (P := fun i s y pc => addsToA i s y s.f.c.toNat pc)
    (fun _ => rfl) addsToA_of_variant_adc (by decide) ⟨rfl, rfl⟩ ⟨rfl, rfl⟩

/-- Settles O33: each row is SUB of its operand form, whose result and flags no carry enters. -/
theorem subFromAccumulator : Obligations.SubFromAccumulator := by
  unfold Obligations.SubFromAccumulator
  exact encoded_and_forall_operand_forms (family := .sub) (P := subsFromA)
    (fun _ => rfl) subsFromA_of_variant_sub (by decide) ⟨rfl, rfl⟩ ⟨rfl, rfl⟩

end Sys2Proof.Machine
end

section
/-! A carry into Add8 compared with an operand one greater (41 R140, 90 C3). -/

namespace Sys2Proof.Machine

theorem add8_carry_res (a b : Byte) : (add8 a b true).res = (add8 a (b + 1#8) false).res := by
  refine BitVec.eq_of_toNat_eq ?_
  rw [add8_res, add8_res, BitVec.toNat_add, BitVec.toNat_ofNat, Bool.toNat_true, Bool.toNat_false]
  omega

/-- With the low nibble of `b` at 15 the carry-in crosses bit 3, and `b + 1` has a zero low nibble, which does not. -/
theorem add8_carry_h_ne_iff (a b : Byte) :
    (add8 a b true).f.h ≠ (add8 a (b + 1#8) false).f.h ↔ b.toNat % 16 = 15 := by
  rw [add8_f, add8_f, ne_eq, decide_eq_decide, BitVec.toNat_add, BitVec.toNat_ofNat, Bool.toNat_true, Bool.toNat_false]
  omega

/-- At 0xFF the carry-in crosses bit 7, and `b + 1` has wrapped to 0, which does not. -/
theorem add8_carry_c_ne_iff (a b : Byte) :
    (add8 a b true).f.c ≠ (add8 a (b + 1#8) false).f.c ↔ b = 0xFF#8 := by
  have ha := a.isLt
  have hb := b.isLt
  rw [add8_f, add8_f, ne_eq, decide_eq_decide, BitVec.toNat_add, BitVec.toNat_ofNat, Bool.toNat_true, Bool.toNat_false,
    ← BitVec.toNat_inj, BitVec.toNat_ofNat]
  omega

/-- Settles O34: the results agree, `z` is of the result, and the carries out differ only where `b + 1` carries. -/
theorem carryInMattersForHalfCarry : Obligations.CarryInMattersForHalfCarry := by
  unfold Obligations.CarryInMattersForHalfCarry
  exact fun a b => ⟨add8_carry_res a b, congrArg (· == 0#8) (add8_carry_res a b), rfl,
    add8_carry_h_ne_iff a b, add8_carry_c_ne_iff a b⟩

end Sys2Proof.Machine
end

section
/-! ADD HL,rr: one lemma for its flags, one for its rows (42 R160 to R164). -/

namespace Sys2Proof.Machine

/-- The flags of ADD HL,rr over the integers (42 R160): the mode decides where `z` comes from and nothing else (R164). -/
theorem addHlFlags_add16 (mode : ZeroMode) (old : Flags) (x y : Word) : addHlFlags mode old (add16 x y).f =
    { z := match mode with
        | .computed => decide ((x.toNat + y.toNat) % 65536 = 0)
        | .unaffected => old.z
      n := false
      h := decide (0x1000 ≤ x.toNat % 4096 + y.toNat % 4096)
      c := decide (0x10000 ≤ x.toNat + y.toNat) } := by
  rw [add16_f]
  cases mode <;> rfl

/-- An ADD HL,rr stands in the first table and takes no operand byte (30 R87). -/
theorem encodedAs_of_variant_addHL {i : Instr} {q : AddPair} (hv : i.variant = .addHL q) :
    encodedAs i false i.opcode 0 := by
  have hprefixed : i.prefixed = false := by rw [Instr.prefixed, hv]; rfl
  have hwidth : i.operandWidth = 0 := by rw [Instr.operandWidth, hv]; rfl
  rw [← hprefixed, ← hwidth]
  exact encodedAs_self i

/-- A rule for ADD HL,rr at once: if the operation meets `P` with the pair it adds, so do the family's rows, each under
the opcode byte the encoder gives it, in both modes and in the one in force. -/
theorem encoded_and_forall_addHL_rows {P : ZeroMode → Pair → State → Result → Prop}
    (hP : ∀ mode q s, P mode (addPairView q) s (addHl mode q s)) {rows : List (Instr × Byte × Pair)}
    (hrows : ∀ p ∈ rows, ∃ q ∈ [AddPair.bc, .de, .hl],
      p.1.variant = .addHL q ∧ p.1.opcode = p.2.1 ∧ addPairView q = p.2.2) :
    ∀ p ∈ rows, encodedAs p.1 false p.2.1 0 ∧ (∀ mode s, P mode p.2.2 s (execUnder mode p.1 s)) ∧
      ∀ s, P addHlZeroMode p.2.2 s (exec p.1 s) := by
  intro p hp
  obtain ⟨q, -, hv, hopcode, hpair⟩ := hrows p hp
  have hunder : ∀ mode s, P mode p.2.2 s (execUnder mode p.1 s) := fun mode s => by
    rw [execUnder_eq_handler, hv, ← hpair]
    exact hP mode q s
  exact ⟨hopcode ▸ encodedAs_of_variant_addHL hv, hunder, fun s => exec_eq_execUnder p.1 s ▸ hunder addHlZeroMode s⟩

/-- Settles O35: the operation meets the rule for each pair, HL itself included, and each row is ADD HL,rr of its pair. -/
theorem addToHl : Obligations.AddToHl := by
  unfold Obligations.AddToHl
  intro ok
  have hok : ∀ mode q s, ok mode (addPairView q) s (addHl mode q s) := by
    intro mode q s
    obtain ⟨t, ht, hhl, hflags, hpc, hsp, hfault, hmem, -⟩ := addHl_next mode q s
    obtain ⟨t', ht', hregs⟩ := addHl_keepsRegsBut mode q s
    obtain rfl : t' = t := Host.Outcome.next.inj (ht'.symm.trans ht)
    have hf := hflags.trans (addHlFlags_add16 ..)
    exact ⟨t', ht, hhl ▸ add16_res .., congrArg Flags.z hf, congrArg Flags.n hf, congrArg Flags.h hf,
      congrArg Flags.c hf, hpc, hsp, hfault, hregs, memKept_of_mem_eq hmem⟩
  have hview : ∀ p ∈ [(AddPair.bc, Pair.bc), (.de, .de), (.hl, .hl)], addPairView p.1 = p.2 := by decide
  exact ⟨fun p hp mode s => hview p hp ▸ hok mode p.1 s, encoded_and_forall_addHL_rows hok (by decide)⟩

end Sys2Proof.Machine
end

section
/-! The rows of a family under one rule (30 R87). -/

namespace Sys2Proof.Machine

/-- An instruction of the first table is its opcode byte and its operand bytes (30 R80, R81). -/
theorem encodedAs_of_variant {i : Instr} {v : Variant} {x : Byte} (hv : i.variant = v) (hx : i.opcode = x)
    (hprefixed : v.prefixed = false) : encodedAs i false x v.format.operandWidth := by
  subst hv hx
  exact hprefixed ▸ encodedAs_self i

/-- A rule for a family of the first table at once: if its instructions do `P` with the selector they name, so do its
rows, each under the opcode byte the encoder gives it. -/
theorem encoded_and_forall_rows {α : Type} {family : α → Variant} {width : Nat} {P : Instr → State → α → Prop}
    (hformat : ∀ x, (family x).prefixed = false ∧ (family x).format.operandWidth = width)
    (hP : ∀ {i x}, i.variant = family x → ∀ s, P i s x) {rows : List (Instr × Byte × α)}
    (hrows : ∀ p ∈ rows, p.1.variant = family p.2.2 ∧ p.1.opcode = p.2.1) :
    ∀ p ∈ rows, encodedAs p.1 false p.2.1 width ∧ ∀ s, P p.1 s p.2.2 := by
  intro p hp
  obtain ⟨hv, hx⟩ := hrows p hp
  obtain ⟨hprefixed, hwidth⟩ := hformat p.2.2
  exact ⟨hwidth ▸ encodedAs_of_variant hv hx hprefixed, hP hv⟩

end Sys2Proof.Machine
end

section
/-! The 8-bit loads that write one register or one byte (43 R170 to R184). -/

namespace Sys2Proof.Machine

open Claims

section
variable {i : Instr} {s : State} {r : Reg8} {a pc : Word} {v : Byte} {m : Mode}

/-- A write of one register and pc is all that a load is (40 R121). -/
theorem loadsReg_of_setReg (h : exec i s = .next ((s.setPc pc).setReg r v)) : loadsReg i s r v pc :=
  ⟨_, h, by simp, by simp, by simp, by simp, by simp,
    fun q hq => (setReg_regsKept (s.setPc pc) r v q hq).trans (State.setPc_reg ..), memKept_of_mem_eq (by simp)⟩

/-- A write of one byte and pc is all that a store is (40 R121). -/
theorem storesByte_of_writeByte (h : exec i s = .next ((s.setPc pc).writeByte a v)) : storesByte i s a v pc :=
  ⟨_, h, fun hm => (s.setPc pc).readByte_writeByte_same hm a v, memKept_writeByte (s.setPc pc) a v,
    rfl, rfl, rfl, rfl, fun q _ => by simp⟩

/-- A mode that does not adjust HL leaves of the operand fetch only pc (40 R116). -/
theorem load_eq_setReg (hm : adjustedRegs m = []) (r : Reg8) (s : State) :
    load m r s = .next ((s.setPc (effAddr m s).2.pc).setReg r (s.readByte (effAddr m s).1)) := by
  cases m with
  | hlInc | hlDec => cases hm
  | indHL | indBC | indDE | absolute | highC | highN => rfl

theorem store_eq_writeByte (hm : adjustedRegs m = []) (r : Reg8) (s : State) :
    store m r s = .next ((s.setPc (effAddr m s).2.pc).writeByte (effAddr m s).1 (s.reg r)) := by
  cases m with
  | hlInc | hlDec => cases hm
  | indHL | indBC | indDE | absolute | highC | highN => cases r <;> rfl

theorem loadsReg_of_load (hm : adjustedRegs m = []) (h : exec i s = load m r s) :
    loadsReg i s r (s.readByte (effAddr m s).1) (effAddr m s).2.pc :=
  loadsReg_of_setReg (h.trans (load_eq_setReg hm r s))

theorem storesByte_of_store (hm : adjustedRegs m = []) (h : exec i s = store m r s) :
    storesByte i s (effAddr m s).1 (s.reg r) (effAddr m s).2.pc :=
  storesByte_of_writeByte (h.trans (store_eq_writeByte hm r s))

end

/-- The high page holds every 0xFF00 + n: the sum does not wrap (30 R89). -/
theorem highPage_toNat (n : Byte) : (highPage n).toNat = 0xFF00 + n.toNat := by
  have hn := n.isLt
  rw [highPage, BitVec.toNat_add, BitVec.toNat_setWidth, BitVec.toNat_ofNat]
  omega

theorem highPage_eq_ofNat (n : Byte) : highPage n = BitVec.ofNat 16 (0xFF00 + n.toNat) := by
  rw [← highPage_toNat, BitVec.ofNat_toNat, BitVec.setWidth_eq]

/-- Settles O36: the rows are the register copies, each one register write. -/
theorem loadRegisterFromRegister : Obligations.LoadRegisterFromRegister := by
  unfold Obligations.LoadRegisterFromRegister
  exact encoded_and_forall_rows (family := fun x : Reg8 × Reg8 => .ldRegReg x.1 x.2)
    (P := fun i s x => loadsReg i s x.1 (s.reg x.2) s.pc) (fun _ => ⟨rfl, rfl⟩)
    (fun hv s => loadsReg_of_setReg (by rw [exec_eq_handler, hv]; rfl)) (by decide)

/-- Settles O37: the immediate is read at pc, before pc moves past it. -/
theorem loadRegisterFromImmediate : Obligations.LoadRegisterFromImmediate := by
  unfold Obligations.LoadRegisterFromImmediate
  exact encoded_and_forall_rows (family := .ldRegImm)
    (P := fun i s r => loadsReg i s r (s.readByte s.pc) (s.pc + 1#16)) (fun _ => ⟨rfl, rfl⟩)
    (fun hv s => loadsReg_of_setReg (by rw [exec_eq_handler, hv]; rfl)) (by decide)

/-- Settles O38: the address is the pair HL of the state before the register write. -/
theorem loadRegisterFromHl : Obligations.LoadRegisterFromHl := by
  unfold Obligations.LoadRegisterFromHl
  exact encoded_and_forall_rows (family := .ldRegIndHL)
    (P := fun i s r => loadsReg i s r (s.readByte (s.pair .hl)) s.pc) (fun _ => ⟨rfl, rfl⟩)
    (fun hv s => loadsReg_of_load (m := .indHL) rfl (by rw [exec_eq_handler, hv]; rfl)) (by decide)

/-- Settles O39: each row is the store of its register through (HL). -/
theorem storeRegisterToHl : Obligations.StoreRegisterToHl := by
  unfold Obligations.StoreRegisterToHl
  exact encoded_and_forall_rows (family := .ldIndHLReg)
    (P := fun i s r => storesByte i s (effAddr .indHL s).1 (s.reg r) s.pc ∧ (effAddr .indHL s).1 = s.pair .hl)
    (fun _ => ⟨rfl, rfl⟩)
    (fun hv s => ⟨storesByte_of_store (m := .indHL) rfl (by rw [exec_eq_handler, hv]; rfl), rfl⟩) (by decide)

/-- Settles O40: the stored byte is the one read at pc in the memory before the write. -/
theorem storeImmediateToHl : Obligations.StoreImmediateToHl := by
  unfold Obligations.StoreImmediateToHl
  refine ⟨encodedAs_self .ld_indHL_n, fun s => ?_⟩
  obtain ⟨t, ht, rfl⟩ := storeImm_next s
  exact storesByte_of_writeByte ht

/-- Settles O41: each row is the load of A through its mode; the sum of the high page does not wrap. -/
theorem loadAccumulatorIndirect : Obligations.LoadAccumulatorIndirect := by
  unfold Obligations.LoadAccumulatorIndirect
  simp only [← highPage_eq_ofNat]
  exact ⟨⟨encodedAs_self .ld_a_indBC, fun s => loadsReg_of_load (m := .indBC) rfl rfl⟩,
    ⟨encodedAs_self .ld_a_indDE, fun s => loadsReg_of_load (m := .indDE) rfl rfl⟩,
    ⟨encodedAs_self .ld_a_indNN, fun s => loadsReg_of_load (m := .absolute) rfl rfl⟩,
    ⟨encodedAs_self .ldh_a_indC, fun s => loadsReg_of_load (m := .highC) rfl rfl⟩,
    encodedAs_self .ldh_a_indN, fun s => loadsReg_of_load (m := .highN) rfl rfl⟩

/-- Settles O42: each row is the store of A through its mode, whose address is the rule's. -/
theorem storeAccumulatorIndirect : Obligations.StoreAccumulatorIndirect := by
  unfold Obligations.StoreAccumulatorIndirect
  exact ⟨⟨encodedAs_self .ld_indBC_a, fun s => ⟨storesByte_of_store (m := .indBC) rfl rfl, rfl⟩⟩,
    ⟨encodedAs_self .ld_indDE_a, fun s => ⟨storesByte_of_store (m := .indDE) rfl rfl, rfl⟩⟩,
    ⟨encodedAs_self .ld_indNN_a, fun s => ⟨storesByte_of_store (m := .absolute) rfl rfl, rfl⟩⟩,
    ⟨encodedAs_self .ldh_indC_a, fun s => ⟨storesByte_of_store (m := .highC) rfl rfl, highPage_toNat _⟩⟩,
    encodedAs_self .ldh_indN_a, fun s => ⟨storesByte_of_store (m := .highN) rfl rfl, highPage_toNat _⟩⟩

end Sys2Proof.Machine
end

section
/-! The loads and stores through HL that step it (43 R185 to R188). -/

namespace Sys2Proof.Machine

/-- The mode reaches the byte at HL and then adds `k` to HL modulo 65536 (40 R116). -/
structure StepsHlBy (m : Mode) (k : Nat) : Prop where
  effAddr_eq : ∀ s, effAddr m s = (s.pair .hl, s)
  pair_afterAccess : ∀ a s, ((afterAccess m a s).pair .hl).toNat = (a.toNat + k) % 65536

theorem hlInc_stepsHlBy : StepsHlBy .hlInc 1 where
  effAddr_eq _ := rfl
  pair_afterAccess a s := by rw [afterAccess, (setPair_pair_same s _).2.2, BitVec.toNat_add, BitVec.toNat_ofNat]

/-- A subtraction of 1 is an addition of 65535 modulo 65536. -/
theorem hlDec_stepsHlBy : StepsHlBy .hlDec 65535 where
  effAddr_eq _ := rfl
  pair_afterAccess a s := by
    rw [afterAccess, (setPair_pair_same s _).2.2, BitVec.toNat_sub, BitVec.toNat_ofNat]
    omega

theorem StepsHlBy.loadA_next {m : Mode} {k : Nat} (h : StepsHlBy m k) (s : State) :
    ∃ t, load m .a s = .next t ∧
      t.reg .a = s.readByte (s.pair .hl) ∧ (t.pair .hl).toNat = ((s.pair .hl).toNat + k) % 65536 ∧
      t.f = s.f ∧ t.pc = s.pc ∧ t.sp = s.sp ∧ t.fault = s.fault ∧ regsKept [.a, .h, .l] s t ∧ memKept [] s t := by
  obtain ⟨t, ht, hstep, hf, hpc, hsp, hfault, hmem, hreg, hregs⟩ := load_next m .a s
  rw [h.effAddr_eq] at hstep hpc hreg
  refine ⟨t, ht, hreg (by decide) (by decide), hstep ▸ h.pair_afterAccess _ _, hf, hpc, hsp, hfault, fun q hq => ?_,
    memKept_of_mem_eq hmem⟩
  obtain ⟨ha, hh, hl⟩ : q ≠ .a ∧ q ≠ .h ∧ q ≠ .l := by simpa using hq
  exact hregs q ha hh hl

theorem StepsHlBy.storeA_next {m : Mode} {k : Nat} (h : StepsHlBy m k) (s : State) :
    (effAddr m s).1 = s.pair .hl ∧ ∃ t, store m .a s = .next t ∧
      (s.mem.wf = true → t.readByte (effAddr m s).1 = s.reg .a) ∧ memKept [(effAddr m s).1] s t ∧
      (t.pair .hl).toNat = ((s.pair .hl).toNat + k) % 65536 ∧
      t.f = s.f ∧ t.pc = s.pc ∧ t.sp = s.sp ∧ t.fault = s.fault ∧ regsKept [.h, .l] s t := by
  obtain ⟨t, ht, hstep, hf, hpc, hsp, hfault, hmem, hregs⟩ := store_next m .a s
  rw [h.effAddr_eq] at hstep hpc hmem ⊢
  have hbytes : ∀ x, t.readByte x = (s.writeByte (s.pair .hl) (s.reg .a)).readByte x := State.readByte_of_mem_eq hmem
  refine ⟨rfl, t, ht, fun hm => (hbytes _).trans (s.readByte_writeByte_same hm _ _),
    fun x hx => (hbytes x).trans (memKept_writeByte s _ _ x hx), hstep ▸ h.pair_afterAccess _ _, hf, hpc, hsp, hfault,
    fun q hq => ?_⟩
  obtain ⟨hh, hl⟩ : q ≠ .h ∧ q ≠ .l := by simpa using hq
  exact hregs q hh hl

/-- Settles O43: each row is the load of A through its mode. -/
theorem loadAccumulatorAndStepHl : Obligations.LoadAccumulatorAndStepHl := by
  unfold Obligations.LoadAccumulatorAndStepHl
  exact List.forall_mem_cons.2 ⟨⟨encodedAs_self .ld_a_indHLI, hlInc_stepsHlBy.loadA_next⟩,
    List.forall_mem_singleton.2 ⟨encodedAs_self .ld_a_indHLD, hlDec_stepsHlBy.loadA_next⟩⟩

/-- Settles O44: each row is the store of A through its mode. -/
theorem storeAccumulatorAndStepHl : Obligations.StoreAccumulatorAndStepHl := by
  unfold Obligations.StoreAccumulatorAndStepHl
  exact List.forall_mem_cons.2 ⟨⟨encodedAs_self .ld_indHLI_a, hlInc_stepsHlBy.storeA_next⟩,
    List.forall_mem_singleton.2 ⟨encodedAs_self .ld_indHLD_a, hlDec_stepsHlBy.storeA_next⟩⟩

end Sys2Proof.Machine
end

section
/-! The 16-bit loads, and a word passed through sp (44 R200 to R205). -/

namespace Sys2Proof.Machine

section
variable {s : State} {p : LoadPair} {q : Pair} {hi lo : Reg8}

/-- A pair view of two cells puts the high byte of a word in the first and the low byte in the second (10 R26). -/
theorem setPair_reg_cells (hcells : pairCells q = [hi, lo]) (s : State) (w : Word) :
    (s.setPair q w).reg hi = hiByte w ∧ (s.setPair q w).reg lo = loByte w := by
  cases q with
  | af => cases hcells
  | bc | de | hl => cases hcells; exact ⟨rfl, rfl⟩

/-- LD rr,nn into a pair of registers: the word's high byte is the second operand byte (44 R200). -/
theorem ldPairImm_loadsCells (hset : ∀ w s, setLoadPair p w s = s.setPair q w) (hcells : pairCells q = [hi, lo])
    (s : State) : ∃ t, ldPairImm p s = .next t ∧ t.reg hi = s.readByte (s.pc + 1#16) ∧ t.reg lo = s.readByte s.pc ∧
      t.f = s.f ∧ t.pc = s.pc + 2#16 ∧ t.sp = s.sp ∧ t.fault = s.fault ∧ regsKept [hi, lo] s t ∧ memKept [] s t := by
  obtain ⟨t, ht, heq⟩ := ldPairImm_next p s
  have hpair : t = (s.setPc (s.pc + 2#16)).setPair q (s.readWord s.pc) := heq.trans (hset ..)
  obtain ⟨hhi, hlo⟩ := setPair_reg_cells hcells (s.setPc (s.pc + 2#16)) (s.readWord s.pc)
  refine ⟨t, ht, ?hi, ?lo, by simp [heq], by simp [heq], by simp [hpair], by simp [heq], fun r hr => ?regs,
    memKept_of_mem_eq (by simp [heq])⟩
  case hi => rw [hpair, hhi, State.readWord, hiByte_join]
  case lo => rw [hpair, hlo, State.readWord, loByte_join]
  case regs => rw [hpair, setPair_reg _ q _ r (hcells ▸ hr), State.setPc_reg]

/-- A write of sp and pc is all that a load of sp is (40 R121). -/
theorem loadsSp_of_setSp {i : Instr} {pc : Word} {x y : Byte} (h : exec i s = .next ((s.setPc pc).setSp (join x y))) :
    ∃ t, exec i s = .next t ∧ t.sp.toNat = x.toNat * 256 + y.toNat ∧
      t.f = s.f ∧ t.pc = pc ∧ t.fault = s.fault ∧ regsKept [] s t ∧ memKept [] s t :=
  ⟨_, h, join_toNat x y, rfl, rfl, rfl, fun r _ => by simp, memKept_of_mem_eq rfl⟩

end

/-- Settles O45: each register row is LD rr,nn of its pair of cells, and LD SP,nn writes the operand word to sp. -/
theorem loadPairFromImmediate : Obligations.LoadPairFromImmediate := by
  unfold Obligations.LoadPairFromImmediate
  refine ⟨List.forall_mem_cons.2 ⟨⟨encodedAs_self .ld_bc_nn, ?bc⟩, List.forall_mem_cons.2
    ⟨⟨encodedAs_self .ld_de_nn, ?de⟩, List.forall_mem_singleton.2 ⟨encodedAs_self .ld_hl_nn, ?hl⟩⟩⟩,
    encodedAs_self .ld_sp_nn, fun s => loadsSp_of_setSp rfl⟩
  case bc => exact ldPairImm_loadsCells (p := .bc) (q := .bc) (fun _ _ => rfl) rfl
  case de => exact ldPairImm_loadsCells (p := .de) (q := .de) (fun _ _ => rfl) rfl
  case hl => exact ldPairImm_loadsCells (p := .hl) (q := .hl) (fun _ _ => rfl) rfl

/-- Settles O46: the handler writes the word sp at the operand word, which it reads before the write. -/
theorem storeSpToMemory : Obligations.StoreSpToMemory := by
  unfold Obligations.StoreSpToMemory
  refine ⟨encodedAs_self .ld_indNN_sp, fun s => ⟨imm16_fst s, ?_⟩⟩
  obtain ⟨t, ht, rfl⟩ := ldIndNNSP_next s
  refine ⟨_, ht, fun hm => ⟨?lo, ?hi⟩, memKept_writeWord (s.setPc (s.pc + 2#16)) _ s.sp, rfl, rfl, rfl, rfl,
    fun r _ => by simp⟩
  case lo => exact ((s.setPc (s.pc + 2#16)).readByte_writeWord_lo hm _ s.sp).trans (loByte_eq_setWidth s.sp)
  case hi => exact ((s.setPc (s.pc + 2#16)).readByte_writeWord_hi hm _ s.sp).trans (hiByte_eq_setWidth s.sp)

/-- Settles O47: the pair HL joins H and L, and the handler writes nothing but sp. -/
theorem loadSpFromHl : Obligations.LoadSpFromHl := by
  unfold Obligations.LoadSpFromHl
  exact ⟨encodedAs_self .ld_sp_hl, fun s => loadsSp_of_setSp (pc := s.pc) rfl⟩

/-- Operand bytes that are the two bytes of a word, low byte first, read as that word (40 R115). -/
theorem State.readWord_of_bytes {s : State} {x w : Word} (hlo : s.readByte x = w.setWidth 8)
    (hhi : s.readByte (x + 1#16) = (w >>> 8).setWidth 8) : s.readWord x = w := by
  rw [State.readWord, hlo, hhi, ← hiByte_eq_setWidth, ← loByte_eq_setWidth, join_hi_lo]

section
variable {annex : Bool} {mode : ZeroMode} {s : State}

/-- A step at the opcode byte of an instruction of the first table runs it (40 R113, 30 R87). -/
theorem stepWith_of_opcode {i : Instr} (hprefixed : i.prefixed = false) (hadmitted : i.admitted annex = true)
    (hrun : s.fault = none) (hbyte : s.readByte s.pc = i.opcode) :
    stepWith (Params.standard annex mode) s = execUnder mode i (s.setPc (s.pc + 1#16)) := by
  have hslot : (DecodeTable.standard annex).decode (s.readByte s.pc) false = some i := by
    rw [hbyte, ← hprefixed, DecodeTable.decode_opcode annex i hadmitted]
  exact stepWith_of_unprefixed_some hrun (hbyte ▸ i.opcode_ne_cb) hslot

/-- The step of LD SP,nn (44 R201). -/
theorem stepWith_ld_sp_nn {v : Word} (hrun : s.fault = none) (hbyte : s.readByte s.pc = 0x31#8)
    (hv : s.readWord (s.pc + 1#16) = v) :
    stepWith (Params.standard annex mode) s = .next ((s.setSp v).setPc (s.pc + 3#16)) := by
  obtain ⟨t, ht, heq⟩ := ldPairImm_next .sp (s.setPc (s.pc + 1#16))
  rw [stepWith_of_opcode (i := .ld_sp_nn) rfl rfl hrun hbyte, execUnder_eq_handler]
  exact ht.trans (by simp [heq, setLoadPair, hv, BitVec.add_assoc])

/-- The step of LD (nn),SP (44 R202). -/
theorem stepWith_ld_indNN_sp {a : Word} (hrun : s.fault = none) (hbyte : s.readByte s.pc = 0x08#8)
    (ha : s.readWord (s.pc + 1#16) = a) :
    stepWith (Params.standard annex mode) s = .next ((s.writeWord a s.sp).setPc (s.pc + 3#16)) := by
  obtain ⟨t, ht, heq⟩ := ldIndNNSP_next (s.setPc (s.pc + 1#16))
  rw [stepWith_of_opcode (i := .ld_indNN_sp) rfl rfl hrun hbyte, execUnder_eq_handler]
  exact ht.trans (by simp [heq, ha, BitVec.add_assoc])

end

/-- Settles O51: the first step leaves memory as it is, so the second finds its own bytes three addresses on; the word
it stores is the one the first left in sp. -/
theorem loadSpThenStoreSp : Obligations.LoadSpThenStoreSp := by
  unfold Obligations.LoadSpThenStoreSp
  intro annex mode s v a hm hrun hbytes
  simp only [State.loadBytes, List.cons.injEq, and_true] at hbytes
  obtain ⟨hload, hvlo, hvhi, hstore, halo, hahi⟩ := hbytes
  have hv : s.readWord (s.pc + 1#16) = v := State.readWord_of_bytes hvlo hvhi
  have hpc : s.pc + 1#16 + 1#16 + 1#16 = s.pc + 3#16 := by simp [BitVec.add_assoc]
  rw [hpc] at hstore halo hahi
  have ha : s.readWord (s.pc + 3#16 + 1#16) = a := State.readWord_of_bytes halo hahi
  exact ⟨(s.setSp v).setPc (s.pc + 3#16), _, stepWith_ld_sp_nn hrun hload hv, stepWith_ld_indNN_sp hrun hstore ha, hrun,
    State.readWord_writeWord ((s.setSp v).setPc (s.pc + 3#16)) hm a v⟩

end Sys2Proof.Machine
end

section
/-! PUSH and POP (45 R211 to R215). -/

namespace Sys2Proof.Machine

section
variable {p q : Pair} {hi lo : Reg8} {x y : Byte}

/-- PUSH of a pair whose bytes are `x` and `y`: the high byte lies above the low one at the new sp (45 R210, R211). -/
theorem push_storesBytes (s : State) (hpair : s.pair p = join x y) :
    ∃ t, push p s = .next t ∧ t.sp.toNat = (s.sp.toNat + 65534) % 65536 ∧
      (s.mem.wf = true → t.readByte (s.sp - 2#16 + 1#16) = x ∧ t.readByte (s.sp - 2#16) = y) ∧
      memKept [s.sp - 2#16, s.sp - 2#16 + 1#16] s t ∧ t.f = s.f ∧ t.pc = s.pc ∧ t.fault = s.fault ∧ regsKept [] s t ∧
      s.f.toByte.toNat = 128 * s.f.z.toNat + 64 * s.f.n.toNat + 32 * s.f.h.toNat + 16 * s.f.c.toNat := by
  obtain ⟨t, ht, rfl, hsp, hf, hpc, hfault, hregs⟩ := push_next p s
  refine ⟨_, ht, ?sp, fun hm => ⟨?hi, ?lo⟩, memKept_writeWord (s.setSp (s.sp - 2#16)) _ _, hf, hpc, hfault,
    fun r _ => hregs r, s.f.toByte_toNat⟩
  case sp =>
    rw [hsp, BitVec.toNat_sub, BitVec.toNat_ofNat]
    omega
  case hi => rw [State.readByte_writeWord_hi (s.setSp (s.sp - 2#16)) hm, hpair, hiByte_join]
  case lo => rw [State.readByte_writeWord_lo (s.setSp (s.sp - 2#16)) hm, hpair, loByte_join]

/-- POP into a pair of registers (45 R213). -/
theorem pop_loadsCells (hcells : pairCells q = [hi, lo]) (s : State) :
    ∃ t, pop q s = .next t ∧ t.reg hi = s.readByte (s.sp + 1#16) ∧ t.reg lo = s.readByte s.sp ∧
      t.sp.toNat = (s.sp.toNat + 2) % 65536 ∧ t.f = s.f ∧ t.pc = s.pc ∧ t.fault = s.fault ∧
      regsKept [hi, lo] s t ∧ memKept [] s t := by
  have hne : q ≠ .af := by rintro rfl; cases hcells
  obtain ⟨t, ht, heq, hsp, hpc, hfault, hmem, hregs⟩ := pop_next q s
  obtain ⟨hhi, hlo⟩ := setPair_reg_cells hcells (s.setSp (s.sp + 2#16)) (s.readWord s.sp)
  rw [State.readWord, hiByte_join] at hhi
  rw [State.readWord, loByte_join] at hlo
  exact ⟨t, ht, heq ▸ hhi, heq ▸ hlo, hsp ▸ BitVec.toNat_add .., heq ▸ State.setPair_f_of_ne_af _ q _ hne, hpc,
    hfault, hcells ▸ hregs, memKept_of_mem_eq hmem⟩

/-- POP AF: the flags are bits 7 to 4 of the byte at sp (45 R214). -/
theorem pop_af_loadsFlags (s : State) :
    ∃ t, pop .af s = .next t ∧ t.reg .a = s.readByte (s.sp + 1#16) ∧ t.f = Flags.ofByte (s.readByte s.sp) ∧
      t.f.toByte = s.readByte s.sp &&& 0xF0#8 ∧ t.sp.toNat = (s.sp.toNat + 2) % 65536 ∧ t.pc = s.pc ∧
      t.fault = s.fault ∧ regsKept [.a] s t ∧ memKept [] s t := by
  obtain ⟨t, ht, heq, hsp, hpc, hfault, hmem, hregs⟩ := pop_next .af s
  have ha : t.reg .a = s.readByte (s.sp + 1#16) := heq ▸ hiByte_join _ _
  have hf : t.f = Flags.ofByte (s.readByte s.sp) := by rw [heq, State.setPair_f_af, State.readWord, loByte_join]
  exact ⟨t, ht, ha, hf, hf ▸ Flags.toByte_ofByte _, hsp ▸ BitVec.toNat_add .., hpc, hfault, hregs,
    memKept_of_mem_eq hmem⟩

end

/-- Settles O48: each row is PUSH of its pair, which joins the high register and the low byte the row names. -/
theorem pushPair : Obligations.PushPair := by
  unfold Obligations.PushPair
  exact List.forall_mem_cons.2 ⟨⟨encodedAs_self .push_bc, fun s => push_storesBytes (p := .bc) s rfl⟩,
    List.forall_mem_cons.2 ⟨⟨encodedAs_self .push_de, fun s => push_storesBytes (p := .de) s rfl⟩,
    List.forall_mem_cons.2 ⟨⟨encodedAs_self .push_hl, fun s => push_storesBytes (p := .hl) s rfl⟩,
    List.forall_mem_singleton.2 ⟨encodedAs_self .push_af, fun s => push_storesBytes (p := .af) s rfl⟩⟩⟩⟩

/-- Settles O49: each register row is POP into its pair of cells, and POP AF writes the flags from the low byte. -/
theorem popPair : Obligations.PopPair := by
  unfold Obligations.PopPair
  exact ⟨List.forall_mem_cons.2 ⟨⟨encodedAs_self .pop_bc, pop_loadsCells (q := .bc) rfl⟩, List.forall_mem_cons.2
    ⟨⟨encodedAs_self .pop_de, pop_loadsCells (q := .de) rfl⟩, List.forall_mem_singleton.2
    ⟨encodedAs_self .pop_hl, pop_loadsCells (q := .hl) rfl⟩⟩⟩, encodedAs_self .pop_af, pop_af_loadsFlags⟩

/-- A pair reads back the word written to it, without bits 3 to 0 where it is AF (10 R26, R27). -/
theorem State.setPair_pair (s : State) (q : Pair) (w : Word) :
    (s.setPair q w).pair q = if q = .af then w &&& 0xFFF0#16 else w := by
  obtain ⟨hbc, hde, hhl⟩ := setPair_pair_same s w
  cases q with
  | bc => exact hbc
  | de => exact hde
  | hl => exact hhl
  | af => exact s.setPair_af_pair w

/-- Writing back what a pair holds changes nothing: the flag byte of AF has no bits 3 to 0 to lose (10 R26, R27). -/
theorem State.setPair_pair_self (s : State) (p : Pair) : s.setPair p (s.pair p) = s := by
  cases p with
  | af => simp [State.setPair, State.pair, State.setReg, State.setFlags, Flags.ofByte_toByte]
  | bc | de | hl => simp [State.setPair, State.pair, State.setReg]

/-- PUSH and then POP: the second reads the word the first stored, at the same sp (45 R215). -/
theorem push_then_pop (p q : Pair) (s : State) (hm : s.mem.wf = true) :
    ∃ t u, push p s = .next t ∧ pop q t = .next u ∧
      u.pair q = (if q = .af then s.pair p &&& 0xFFF0#16 else s.pair p) ∧
      (p = q → u.pair p = s.pair p) ∧ u.sp = s.sp ∧ u.readWord (s.sp - 2#16) = s.pair p := by
  obtain ⟨t, ht, hteq, htsp, -⟩ := push_next p s
  obtain ⟨u, hu, hueq, husp, -⟩ := pop_next q t
  have hword : t.readWord (s.sp - 2#16) = s.pair p := by
    rw [hteq, State.readWord_writeWord (s.setSp (s.sp - 2#16)) hm]
  have hpair : t.pair p = s.pair p := by simp [hteq]
  rw [htsp, hword] at hueq
  rw [htsp, BitVec.sub_add_cancel] at husp
  refine ⟨t, u, ht, hu, hueq ▸ State.setPair_pair .., ?restored, husp, by simpa [hueq] using hword⟩
  case restored =>
    rintro rfl
    rw [hueq, ← hpair, ← State.setSp_pair t, State.setPair_pair_self]

/-- Settles O50: each row of the first list is PUSH of its pair, each of the second POP into its pair. -/
theorem pushThenPop : Obligations.PushThenPop := by
  unfold Obligations.PushThenPop
  intro p hp q hq s hm
  have hpush : p.1.variant = .push p.2 := by revert p; decide
  have hpop : q.1.variant = .pop q.2 := by revert q; decide
  simp only [exec_eq_handler, hpush, hpop]
  exact push_then_pop p.2 q.2 s hm

end Sys2Proof.Machine
end

section
/-! Jumps (46 R220 to R225). -/

namespace Sys2Proof.Machine

section
variable {cc : Cond} {s : State}

/-- A write of pc is all that a jump is, taken or not (46 R222). -/
theorem State.setPc_keeps (s : State) (x : Word) :
    (s.setPc x).f = s.f ∧ (s.setPc x).sp = s.sp ∧ (s.setPc x).fault = s.fault ∧
      regsKept [] s (s.setPc x) ∧ memKept [] s (s.setPc x) :=
  ⟨s.setPc_f x, s.setPc_sp x, s.setPc_fault x, fun r _ => s.setPc_reg x r, memKept_of_mem_eq (s.setPc_mem x)⟩

/-- A word read is its byte at the address and, above it, the byte at the next (20 R53). -/
theorem State.readWord_toNat (s : State) (x : Word) :
    (s.readWord x).toNat = (s.readByte (x + 1#16)).toNat * 256 + (s.readByte x).toNat :=
  join_toNat (s.readByte (x + 1#16)) (s.readByte x)

theorem jumpIf_of_condHolds (hcc : condHolds cc s.f = true) : jumpIf cc s = .next (s.setPc (s.readWord s.pc)) := by
  simp [jumpIf_next, hcc]

theorem jumpIf_of_not_condHolds (hcc : condHolds cc s.f = false) : jumpIf cc s = .next (s.setPc (s.pc + 2#16)) := by
  simp [jumpIf_next, hcc]

/-- JP cc,nn: pc is the word at pc or the address after it, and nothing else changes (46 R222 to R225). -/
theorem jumpIf_setsPc (cc : Cond) (s : State) :
    ∃ t, jumpIf cc s = .next t ∧
      (condHolds cc s.f = true → t.pc.toNat = (s.readByte (s.pc + 1#16)).toNat * 256 + (s.readByte s.pc).toNat) ∧
      (condHolds cc s.f = false → t.pc = s.pc + 2#16) ∧
      t.f = s.f ∧ t.sp = s.sp ∧ t.fault = s.fault ∧ regsKept [] s t ∧ memKept [] s t := by
  cases hcc : condHolds cc s.f with
  | true => exact ⟨_, jumpIf_of_condHolds hcc, fun _ => s.readWord_toNat s.pc, nofun, s.setPc_keeps _⟩
  | false => exact ⟨_, jumpIf_of_not_condHolds hcc, nofun, fun _ => rfl, s.setPc_keeps _⟩

/-- A jump not taken does the same over any memory: the condition and the advance of pc read none (46 R222). -/
theorem jumpIf_ignoresMem (m : Memory) (hcc : condHolds cc s.f = false) :
    ∃ t, jumpIf cc s = .next t ∧ jumpIf cc { s with mem := m } = .next { t with mem := m } :=
  ⟨_, jumpIf_of_not_condHolds hcc, jumpIf_of_not_condHolds (s := { s with mem := m }) hcc⟩

end

/-- Settles O30: NZ and NC fail on a set flag, Z and C on a clear one, and a jump not taken ignores memory. -/
theorem jumpNotTakenReadsNoOperand : Obligations.JumpNotTakenReadsNoOperand := by
  unfold Obligations.JumpNotTakenReadsNoOperand
  intro s m
  refine ⟨fun hz => ?nz, fun hz => ?z, fun hc => ?nc, fun hc => ?c⟩
  case nz => exact jumpIf_ignoresMem (cc := .nz) m (by simp [condHolds, hz])
  case z => exact jumpIf_ignoresMem (cc := .z) m hz
  case nc => exact jumpIf_ignoresMem (cc := .nc) m (by simp [condHolds, hc])
  case c => exact jumpIf_ignoresMem (cc := .c) m hc

/-- Settles O53: the handler writes the operand word to pc and nothing else. -/
theorem jumpAbsolute : Obligations.JumpAbsolute := by
  unfold Obligations.JumpAbsolute
  exact ⟨encodedAs_self .jp_nn, fun s => ⟨_, rfl, s.readWord_toNat s.pc, s.setPc_keeps _⟩⟩

/-- Settles O54: each row is JP cc,nn of its condition. -/
theorem jumpConditional : Obligations.JumpConditional := by
  unfold Obligations.JumpConditional
  exact ⟨⟨encodedAs_self .jp_nz_nn, jumpIf_setsPc .nz⟩, ⟨encodedAs_self .jp_z_nn, jumpIf_setsPc .z⟩,
    ⟨encodedAs_self .jp_nc_nn, jumpIf_setsPc .nc⟩, encodedAs_self .jp_c_nn, jumpIf_setsPc .c⟩

end Sys2Proof.Machine
end

section
/-! A latched fault: only an empty slot latches one, and no step is taken with one latched (60 R280 to R287). -/

namespace Sys2Proof.Machine

theorem runWith_succ_of_fault (P : Params) {s : State} {f : Fault} (h : s.fault = some f) (k : Nat) :
    runWith P (k + 1) s = .fault f := by
  rw [runWith, stepWith_of_fault P h]

/-- Settles O10: the first step of the run is the fault, and the run ends with it. -/
theorem faultedEngineTakesNoStep : Obligations.FaultedEngineTakesNoStep := by
  unfold Obligations.FaultedEngineTakesNoStep
  exact fun P _ _ h => ⟨stepWith_of_fault P h, runWith_succ_of_fault P h⟩

/-- Settles O11: a step takes the exception, which latches the fault and nothing else, or runs a handler, which leaves
`fault` as it finds it: none, or there would have been no step. -/
theorem onlyAnEmptySlotFaults : Obligations.OnlyAnEmptySlotFaults := by
  unfold Obligations.OnlyAnEmptySlotFaults
  intro P s t h
  obtain ⟨hrun, ⟨hempty, rfl⟩ | ⟨i, hi, ht⟩⟩ := stepWith_cases h
  · refine ⟨fun r hr => ?_, fun i hi => absurd (hempty.symm.trans hi) nofun⟩
    obtain rfl := Option.some.inj hr
    exact ⟨hempty, rfl, rfl⟩
  · rw [execUnder_eq_handler] at ht
    have hnone : t.fault = none := (handler_fault ht).trans hrun
    exact ⟨fun r hr => absurd (hnone.symm.trans hr) nofun, fun _ _ => hnone⟩

end Sys2Proof.Machine
end

section
/-! The host's access port, and the first step from bare reset (70 R310, R311, R316). -/

namespace Sys2Proof.Machine

@[simp] theorem State.storeBytes_fault (s : State) (a : Word) (vs : List Byte) :
    (s.storeBytes a vs).fault = s.fault := by
  induction vs generalizing s a with
  | nil => rfl
  | cons v vs ih => exact ih (s.writeByte a v) (a + 1#16)

/-- The moves that reach memory are byte writes, and reset empties it. -/
theorem State.hostMove_wf (s : State) (m : HostMove) (hm : s.mem.wf = true) : (s.hostMove m).mem.wf = true := by
  cases m with
  | setReg r v => exact (s.setReg_mem r v).symm ▸ hm
  | setPair p w => exact (s.setPair_mem p w).symm ▸ hm
  | setFlags | setFlagByte | setPc | setSp => exact hm
  | writeByte a v => exact s.writeByte_wf hm a v
  | writeWord a w => exact s.writeWord_wf hm a w
  | loadImage a bytes => exact s.storeBytes_wf hm a bytes
  | reset => rfl

theorem State.hostMove_fault (s : State) (m : HostMove) (h : m ≠ .reset) : (s.hostMove m).fault = s.fault := by
  cases m with
  | setReg r v => exact s.setReg_fault r v
  | setPair p w => exact s.setPair_fault p w
  | setFlags | setFlagByte | setPc | setSp | writeByte | writeWord => rfl
  | loadImage a bytes => exact s.storeBytes_fault a bytes
  | reset => exact absurd rfl h

/-- Settles O16: the moves one by one; AF and the flag byte are written through the flag byte's bits 7 to 4. -/
theorem hostMovesKeepMemoryCanonical : Obligations.HostMovesKeepMemoryCanonical := by
  unfold Obligations.HostMovesKeepMemoryCanonical
  exact ⟨State.hostMove_wf, State.hostMove_fault, fun _ => rfl, State.setPair_af_pair,
    fun _ => Flags.toByte_ofByte⟩

/-- Memory is zero at reset, so the fetched opcode is 0x00, whose slot the spec's tables leave empty (70 R311). -/
theorem stepWith_reset (annex : Bool) (mode : ZeroMode) : stepWith (Params.standard annex mode) State.reset =
    .next (takeUnimplemented State.reset 0x00#8 false) := by
  have hslot : (DecodeTable.standard annex).unprefixed 0x00#8 = none := by revert annex; decide
  exact stepWith_of_unprefixed_none rfl (by decide) hslot

/-- Settles O18: the parameters in force are the spec's tables under one of the values of each parameter. -/
theorem firstStepFromBareResetFaults : Obligations.FirstStepFromBareResetFaults := by
  unfold Obligations.FirstStepFromBareResetFaults
  exact ⟨stepWith_reset, stepWith_reset true addHlZeroMode⟩

end Sys2Proof.Machine
end

section
/-! AND, XOR and OR on A: one lemma for the three, over their operand forms (47 R231 to R240). -/

namespace Sys2Proof.Machine

open Claims

/-- The Instruction value of a logic operation (47 R230). -/
def logicVariant : LogicOp → Src8 → Variant
  | .and => .and
  | .xor => .xor
  | .or => .or

/-- A logic operation on one bit (47 R231). -/
def logicBit : LogicOp → Bool → Bool → Bool
  | .and => (· && ·)
  | .xor => (· ^^ ·)
  | .or => (· || ·)

theorem handler_logicVariant (mode : ZeroMode) (op : LogicOp) (src : Src8) (s : State) :
    handler mode (logicVariant op src) s = logicA op src s := by
  cases op <;> rfl

theorem logicVariant_format (op : LogicOp) (src : Src8) : (logicVariant op src).format = srcFormat src := by
  cases op <;> rfl

theorem logic_res_getLsbD (op : LogicOp) (x y : Byte) (k : Nat) :
    (logic op x y).res.getLsbD k = logicBit op (x.getLsbD k) (y.getLsbD k) := by
  cases op with
  | and => exact BitVec.getLsbD_and
  | xor => exact BitVec.getLsbD_xor
  | or => exact BitVec.getLsbD_or

theorem logic_f (op : LogicOp) (x y : Byte) : (logic op x y).f =
    { z := decide ((logic op x y).res.toNat = 0), n := false, h := op == .and, c := false } := by
  rw [← beq_zero]; rfl

theorem logicsA_of_logicVariant {op : LogicOp} {i : Instr} {src : Src8} (hv : i.variant = logicVariant op src)
    (s : State) : logicsA (logicBit op) (op == .and) i s (readSrc src s).1 (readSrc src s).2.pc := by
  obtain ⟨t, ht, h⟩ := logicA_next op src s
  refine ⟨t, by rw [exec_eq_handler, hv, handler_logicVariant, ht], fun k _ => ?bits, ?flags, h.pc_readSrc, h.sp,
    h.fault, h.regsKept, memKept_of_mem_eq h.mem⟩
  case bits => rw [h.acc, logic_res_getLsbD]
  case flags => rw [h.flags, logic_f, h.acc]

theorem and_triple_append {a b c d : Prop} : a ∧ b ∧ c → d → a ∧ b ∧ c ∧ d
  | ⟨ha, hb, hc⟩, hd => ⟨ha, hb, hc, hd⟩

/-- Settles O55: each row is the logic operation of its operand form. -/
theorem logicOnAccumulator : Obligations.LogicOnAccumulator := by
  unfold Obligations.LogicOnAccumulator
  refine and_triple_append ?and (and_triple_append ?xor ?or)
  case and =>
    exact encoded_and_forall_operand_forms (P := logicsA (logicBit .and) true) (logicVariant_format .and)
      logicsA_of_logicVariant (by decide) ⟨rfl, rfl⟩ ⟨rfl, rfl⟩
  case xor =>
    exact encoded_and_forall_operand_forms (P := logicsA (logicBit .xor) false) (logicVariant_format .xor)
      logicsA_of_logicVariant (by decide) ⟨rfl, rfl⟩ ⟨rfl, rfl⟩
  case or =>
    exact encoded_and_forall_operand_forms (P := logicsA (logicBit .or) false) (logicVariant_format .or)
      logicsA_of_logicVariant (by decide) ⟨rfl, rfl⟩ ⟨rfl, rfl⟩

end Sys2Proof.Machine
end

section
/-! The rotates and shifts over the integers (47 R251): both directions fill the bit that falls free, and the seven
operations differ in what they fill it with. -/

namespace Sys2Proof.Machine

open Claims

theorem getLsbD_seven_toNat (v : Byte) : (v.getLsbD 7).toNat = v.toNat / 128 := by
  have hv := v.isLt
  rw [BitVec.getLsbD, Nat.toNat_testBit]
  omega

theorem getLsbD_zero_toNat (v : Byte) : (v.getLsbD 0).toNat = v.toNat % 2 := by
  rw [BitVec.getLsbD, Nat.toNat_testBit, pow_zero, Nat.div_one]

theorem getLsbD_seven_eq (v : Byte) : v.getLsbD 7 = decide (128 ≤ v.toNat) := BitVec.msb_eq_decide v

theorem getLsbD_zero_eq (v : Byte) : v.getLsbD 0 = decide (v.toNat % 2 = 1) := Nat.testBit_zero v.toNat

theorem shiftLeft_one_toNat (v : Byte) : (v <<< 1).toNat = 2 * v.toNat % 256 := by
  rw [BitVec.toNat_shiftLeft, Nat.shiftLeft_eq, mul_comm, pow_one]

theorem ushiftRight_one_toNat (v : Byte) : (v >>> 1).toNat = v.toNat / 2 := by
  rw [BitVec.toNat_ushiftRight, Nat.shiftRight_eq_div_pow, pow_one]

theorem bitByte_shiftLeft_seven_toNat (x : Bool) : (bitByte x <<< 7).toNat = 128 * x.toNat := by
  cases x <;> rfl

/-- A shift left leaves bit 0 free. -/
theorem shiftLeft_one_or_bitByte_toNat (v : Byte) (x : Bool) :
    ((v <<< 1) ||| bitByte x).toNat = 2 * v.toNat % 256 + x.toNat := by
  have heven : 2 * v.toNat % 256 = 2 ^ 1 * (v.toNat % 128) := by omega
  rw [BitVec.toNat_or, shiftLeft_one_toNat, bitByte_toNat, heven, Nat.two_pow_add_eq_or_of_lt x.toNat_lt]

/-- A shift right leaves bit 7 free. -/
theorem ushiftRight_one_or_bitByte_toNat (v : Byte) (x : Bool) :
    ((v >>> 1) ||| (bitByte x <<< 7)).toNat = v.toNat / 2 + 128 * x.toNat := by
  have hv := v.isLt
  have hlow : v.toNat / 2 < 2 ^ 7 := by omega
  rw [BitVec.toNat_or, ushiftRight_one_toNat, bitByte_shiftLeft_seven_toNat, Nat.lor_comm, Nat.add_comm]
  exact (Nat.two_pow_add_eq_or_of_lt hlow x.toNat).symm

/-- The sign bit that SRA keeps, as the bit it fills (47 R261). -/
theorem and_sign_eq_bitByte (v : Byte) : v &&& 0x80#8 = bitByte (v.getLsbD 7) <<< 7 := by
  revert v; decide

theorem shiftRes_toNat (op : ShiftOp) (v : Byte) (cin : Bool) :
    (shiftRes op v cin).toNat = (shiftNat op v.toNat cin).1 := by
  cases op with
  | rlc => rw [shiftRes, shiftLeft_one_or_bitByte_toNat, getLsbD_seven_toNat, shiftNat]
  | rrc => rw [shiftRes, ushiftRight_one_or_bitByte_toNat, getLsbD_zero_toNat, shiftNat]
  | rl => exact shiftLeft_one_or_bitByte_toNat v cin
  | rr => exact ushiftRight_one_or_bitByte_toNat v cin
  | sla => exact shiftLeft_one_toNat v
  | sra => rw [shiftRes, and_sign_eq_bitByte, ushiftRight_one_or_bitByte_toNat, getLsbD_seven_toNat, shiftNat]
  | srl => exact ushiftRight_one_toNat v

theorem shiftOut_eq_shiftNat (op : ShiftOp) (v : Byte) (cin : Bool) :
    shiftOut op v = (shiftNat op v.toNat cin).2 := by
  cases op with
  | rlc | rl | sla => exact getLsbD_seven_eq v
  | rrc | rr | sra | srl => exact getLsbD_zero_eq v

theorem shift_f (op : ShiftOp) (v : Byte) (cin : Bool) : (shift op v cin).f =
    { z := decide ((shiftNat op v.toNat cin).1 = 0), n := false, h := false, c := (shiftNat op v.toNat cin).2 } := by
  rw [← shiftRes_toNat, ← shiftOut_eq_shiftNat, ← beq_zero]; rfl

end Sys2Proof.Machine
end

section
/-! The rotates of A, and the CB-prefixed rotates and shifts over their operands (47 R241 to R262). -/

namespace Sys2Proof.Machine

open Claims

/-- RLCA, RRCA, RLA, RRA in integer terms: `z` is clear whatever the result (47 R241 to R244). -/
theorem rotateA_shiftNat (op : ShiftOp) (s : State) : ∃ t, rotateA op s = .next t ∧
    (t.reg .a).toNat = (shiftNat op (s.reg .a).toNat s.f.c).1 ∧
    t.f = { z := false, n := false, h := false, c := (shiftNat op (s.reg .a).toNat s.f.c).2 } ∧
    t.pc = s.pc ∧ t.sp = s.sp ∧ t.fault = s.fault ∧ regsKept [.a] s t ∧ memKept [] s t := by
  obtain ⟨t, ht, hres, hf, hpc, hsp, hfault, hmem, hregs⟩ := rotateA_next op s
  exact ⟨t, ht, by rw [hres, shiftRes_toNat], by rw [hf, shiftOut_eq_shiftNat], hpc, hsp, hfault,
    fun q hq => hregs q (List.ne_of_not_mem_cons hq), memKept_of_mem_eq hmem⟩

/-- Settles O56: each row is the rotate of A by its operation. -/
theorem rotateAccumulator : Obligations.RotateAccumulator := by
  unfold Obligations.RotateAccumulator
  exact List.forall_mem_cons.2 ⟨⟨encodedAs_self .rlca, rotateA_shiftNat .rlc⟩,
    List.forall_mem_cons.2 ⟨⟨encodedAs_self .rrca, rotateA_shiftNat .rrc⟩,
      List.forall_mem_cons.2 ⟨⟨encodedAs_self .rla, rotateA_shiftNat .rl⟩,
        List.forall_mem_singleton.2 ⟨encodedAs_self .rra, rotateA_shiftNat .rr⟩⟩⟩⟩

/-- The Instruction value of a CB-prefixed rotate or shift (47 R250). -/
def shiftVariant : ShiftOp → Tgt8 → Variant
  | .rlc => .rlc
  | .rrc => .rrc
  | .rl => .rl
  | .rr => .rr
  | .sla => .sla
  | .sra => .sra
  | .srl => .srl

theorem handler_shiftVariant (mode : ZeroMode) (op : ShiftOp) (tgt : Tgt8) (s : State) :
    handler mode (shiftVariant op tgt) s = shiftTgt op tgt s := by
  cases op <;> rfl

theorem shiftVariant_format (op : ShiftOp) (tgt : Tgt8) : (shiftVariant op tgt).format = .cbOp := by
  cases op <;> rfl

theorem encodedAs_of_shiftVariant {i : Instr} {op : ShiftOp} {tgt : Tgt8} {x : Byte}
    (hv : i.variant = shiftVariant op tgt) (hx : i.opcode = x) : encodedAs i true x 0 := by
  have hformat : i.variant.format = .cbOp := hv ▸ shiftVariant_format op tgt
  have hprefixed : i.prefixed = true := by rw [Instr.prefixed, Variant.prefixed, hformat]; rfl
  have hwidth : i.operandWidth = 0 := by rw [Instr.operandWidth, hformat]; rfl
  rw [← hprefixed, ← hwidth, ← hx]
  exact encodedAs_self i

/-- A rule for the CB-prefixed rotates and shifts at once: if the operation meets `P` on the operand a row names, so does
the row, under the opcode byte the encoder gives it behind 0xCB. -/
theorem encoded_and_forall_shift_rows {α : Type} {op : α → ShiftOp} {tgt : α → Tgt8} {P : α → State → Result → Prop}
    (hP : ∀ x s, P x s (shiftTgt (op x) (tgt x) s)) {rows : List (Instr × Byte × α)}
    (hrows : ∀ p ∈ rows, p.1.variant = shiftVariant (op p.2.2) (tgt p.2.2) ∧ p.1.opcode = p.2.1) :
    ∀ p ∈ rows, encodedAs p.1 true p.2.1 0 ∧ ∀ s, P p.2.2 s (exec p.1 s) := by
  intro p hp
  obtain ⟨hv, hx⟩ := hrows p hp
  refine ⟨encodedAs_of_shiftVariant hv hx, fun s => ?_⟩
  rw [exec_eq_handler, hv, handler_shiftVariant]
  exact hP p.2.2 s

/-- A register replaced by its rotate or shift, all flags written, nothing else changed (47 R251). -/
def shiftsReg (x : ShiftOp × Reg8) (s : State) (res : Result) : Prop :=
  ∃ t, res = .next t ∧
    (t.reg x.2).toNat = (shiftNat x.1 (s.reg x.2).toNat s.f.c).1 ∧
    t.f = { z := decide ((t.reg x.2).toNat = 0), n := false, h := false
            c := (shiftNat x.1 (s.reg x.2).toNat s.f.c).2 } ∧
    t.pc = s.pc ∧ t.sp = s.sp ∧ t.fault = s.fault ∧ regsKept [x.2] s t ∧ memKept [] s t

/-- The byte at HL replaced by its rotate or shift, all flags written, nothing else changed (47 R251). -/
def shiftsIndHL (op : ShiftOp) (s : State) (res : Result) : Prop :=
  ∃ t, res = .next t ∧
    (s.mem.wf = true →
      (t.readByte (s.pair .hl)).toNat = (shiftNat op (s.readByte (s.pair .hl)).toNat s.f.c).1) ∧
    memKept [s.pair .hl] s t ∧
    t.f = { z := decide ((shiftNat op (s.readByte (s.pair .hl)).toNat s.f.c).1 = 0), n := false, h := false
            c := (shiftNat op (s.readByte (s.pair .hl)).toNat s.f.c).2 } ∧
    t.pc = s.pc ∧ t.sp = s.sp ∧ t.fault = s.fault ∧ regsKept [] s t

theorem shiftTgt_reg_shiftsReg (x : ShiftOp × Reg8) (s : State) : shiftsReg x s (shiftTgt x.1 (.reg x.2) s) := by
  obtain ⟨t, ht, hres, hf, hpc, hsp, hfault, hmem, hregs⟩ := shiftTgt_reg_next x.1 x.2 s
  have hnat : (t.reg x.2).toNat = (shiftNat x.1 (s.reg x.2).toNat s.f.c).1 := hres ▸ shiftRes_toNat ..
  exact ⟨t, ht, hnat, by rw [hnat, hf, shift_f], hpc, hsp, hfault, fun q hq => hregs q (List.ne_of_not_mem_cons hq),
    memKept_of_mem_eq hmem⟩

/-- The state's memory is that of one byte write at HL, which reads back from canonical memory. -/
theorem shiftTgt_indHL_shiftsIndHL (op : ShiftOp) (s : State) : shiftsIndHL op s (shiftTgt op .indHL s) := by
  obtain ⟨t, ht, hmem, hf, hpc, hsp, hfault, hregs⟩ := shiftTgt_indHL_next op s
  have hbytes : ∀ a, t.readByte a =
      (s.writeByte (s.pair .hl) (shift op (s.readByte (s.pair .hl)) s.f.c).res).readByte a :=
    State.readByte_of_mem_eq hmem
  refine ⟨t, ht, fun hm => ?stored, fun a ha => (hbytes a).trans (memKept_writeByte s _ _ a ha),
    hf.trans (shift_f ..), hpc, hsp, hfault, fun q _ => hregs q⟩
  case stored =>
    rw [hbytes, s.readByte_writeByte_same hm]
    exact shiftRes_toNat ..

/-- Settles O57: each row is the rotate or shift of its operand. -/
theorem shiftRegisterOrMemory : Obligations.ShiftRegisterOrMemory := by
  unfold Obligations.ShiftRegisterOrMemory
  exact ⟨encoded_and_forall_shift_rows (P := shiftsReg) shiftTgt_reg_shiftsReg (by decide),
    encoded_and_forall_shift_rows (P := shiftsIndHL) shiftTgt_indHL_shiftsIndHL (by decide)⟩

end Sys2Proof.Machine
end
